-- ==== Sys2Proof/Word.lean ====
section
/-! DEFINITION. The bit widths of the block: a binary32 sample pattern, a 40-bit command word, a 40-bit report frame,
and the values a binary32 operation can give. -/

namespace Sys2Proof

/-- A binary32 bit pattern, as it travels in `cmd[31:0]` and as a stream holds it (20_memory.md R55, 10_state.md R24). -/
abbrev Pattern := BitVec 32

/-- The 40-bit command word `cmd[39:0]` (30_encoding.md R72). -/
abbrev CmdWord := BitVec 40

/-- The 40-bit report frame on `tx_frame[39:0]`, byte 0 in bits 39..32 (20_memory.md R54). -/
abbrev Frame := BitVec 40

/-- A binary32 value: an exact rational, or an infinity (00_scope.md R13). The two zeros share the value 0, since the
sign of a zero result is not observable in any output (R13; DEDUCED, log entry 13).
Under ARITH = EXACT the rational is any rational (R15). -/
inductive Value32 where
  | fin (q : Rat)
  | posInf
  | negInf
deriving DecidableEq, Repr

end Sys2Proof
end

