-- ==== Sys2Proof/Config.lean ====
section
/-! DEFINITION. What one build of the block fixes (00_scope.md R6, 10_state.md R36) and the free values (93_implementation_defined.md, treatment "any value"). -/

namespace Sys2Proof

/-- Parameter ARITH: how the average and the scaling by ten are computed (40_sample_stream.md R102 to R104). -/
inductive ArithMode where
  | cr32
  | seq32
  | exact
deriving DecidableEq, Repr

/-- Parameter TEMP_ROUND: the rounding of the temperature code (42_frame_encoder.md R153). -/
inductive TempRound where
  | halfEven
  | halfAway
  | halfUp
  | trunc
deriving DecidableEq, Repr

/-- Parameter SAMPLE_FORMAT. Only binary32 is specified (93_implementation_defined.md U11). -/
inductive SampleFormat where
  | binary32
deriving DecidableEq, Repr

/-- The build-time parameters, one field for each row of 00_scope.md R6. Intervals and times count TICK_UNIT. -/
structure Build where
  /-- N, the capacity of each sample stream. -/
  n : Nat
  /-- NUM_STREAMS. The commands name two, TS and VS (10_state.md R20). -/
  numStreams : Nat
  /-- COUNT_W, the width of the motion count. -/
  countW : Nat
  /-- DEBOUNCE_EN, whether the debounce gate exists. -/
  debounceEn : Bool
  /-- DEBOUNCE_MS. -/
  debounceMs : Nat
  /-- FIRST_DELAY_MS. -/
  firstDelayMs : Nat
  /-- SUCCESS_MS. -/
  successMs : Nat
  /-- RETRY_MS. -/
  retryMs : Nat
  /-- BUTTON_OFFSET_MS. -/
  buttonOffsetMs : Nat
  /-- FRAME_BYTES, how many bytes of the frame the radio sends. -/
  frameBytes : Nat
  /-- VOLT_SENTINEL, the voltage byte of an empty stream. -/
  voltSentinel : BitVec 8
  /-- TEMP_SENTINEL, the temperature field of an empty stream. -/
  tempSentinel : BitVec 16
  /-- TICK_W, the width of the time bus and of every stored time. -/
  tickW : Nat
  /-- TICK_UNIT in milliseconds: what one count of a time stands for. No rule computes with it. -/
  tickUnitMs : Nat
  /-- SAMPLE_FORMAT. -/
  sampleFormat : SampleFormat
  /-- ARITH. -/
  arith : ArithMode
  /-- TEMP_ROUND. -/
  tempRound : TempRound
deriving DecidableEq, Repr

/-- The value column of 00_scope.md R6: the build of the spec's test vectors. -/
def Build.standard : Build where
  n := 8
  numStreams := 2
  countW := 16
  debounceEn := true
  debounceMs := 2000
  firstDelayMs := 10000
  successMs := 900000
  retryMs := 1000
  buttonOffsetMs := 0
  frameBytes := 5
  voltSentinel := 0xFF#8
  tempSentinel := 0x7FFF#16
  tickW := 64
  tickUnitMs := 1
  sampleFormat := .binary32
  arith := .cr32
  tempRound := .halfEven

/-- FREE VALUE. `val32` of a non-finite pattern is undefined (00_scope.md R12). No reachable state holds such a
pattern (10_state.md R21), so this is read in unreachable states only (DESIGN CHOICE, log entry 8). -/
opaque Config.undefinedVal32 : Pattern → Rat

/-- FREE VALUE. `obs_ts[k]` in step number `t` while `obs_ts_valid[k]` is low (10_state.md R35, U4; DESIGN CHOICE, log
entry 9). -/
opaque Config.undrivenObsTs : (k t : Nat) → Pattern

/-- FREE VALUE. `obs_vs[k]` in step number `t` while `obs_vs_valid[k]` is low (10_state.md R35, U4; DESIGN CHOICE, log
entry 9). -/
opaque Config.undrivenObsVs : (k t : Nat) → Pattern

/-- FREE VALUE. The radio's answer `tx_ok`, in step number `t`, to a request still open where `script` has ended: a draw
(44_transmission_controller.md R211, U15; DESIGN CHOICE, log entry 1). -/
opaque Config.radioAnswer : (t : Nat) → Bool

/-- FREE VALUE. `obs_status` of a build with N > 15, whose layout 10_state.md R34 does not give
(DESIGN CHOICE, log entry 15). -/
opaque Config.wideStatus : (t : Nat) → BitVec 32

end Sys2Proof
end

