-- ==== Sys2Proof/Syntax.lean ====
section
/-! DEFINITION. The ten operations of spec/opcode_table.json: six commands and four steps without a command word. -/

namespace Sys2Proof

/-- One constructor per row of spec/opcode_table.json. A command is what the command port offers; `txComplete` is the
radio's answer (`tx_ack` high with `tx_ok`), `reset` is `rst` high, and `init` and `wake` are the block's own steps. -/
inductive Instr where
  /-- TEMP_UPDATE with its sample (40_sample_stream.md R105). -/
  | tempUpdate (p : Pattern)
  /-- TEMP_ERROR (40_sample_stream.md R106). -/
  | tempError
  /-- VOLT_UPDATE with its sample (40_sample_stream.md R107). -/
  | voltUpdate (p : Pattern)
  /-- VOLT_ERROR (40_sample_stream.md R108). -/
  | voltError
  /-- MOTION (41_motion_counter.md R130). -/
  | motion
  /-- BUTTON (43_report_scheduler.md R184). -/
  | button
  /-- INIT (43_report_scheduler.md R182). -/
  | init
  /-- WAKE (44_transmission_controller.md R210). -/
  | wake
  /-- TX_COMPLETE with `ok = tx_ok` (44_transmission_controller.md R211). -/
  | txComplete (ok : Bool)
  /-- RESET (70_reset_and_hazards.md R270). -/
  | reset
deriving DecidableEq, Repr

/-- Why a command word spells no command (30_encoding.md R80). -/
inductive DecodeError where
  /-- OPC is 0x00 or 0x07 to 0xFF (30_encoding.md R75). -/
  | illegalOpcode
  /-- A command without a sample carries a payload other than zero (30_encoding.md R76). -/
  | reservedPayload
deriving DecidableEq, Repr

end Sys2Proof
end

