-- ==== Sys2Proof/WellFormed.lean ====
section
/-! DEFINITION. The checks on syntax and on a build: which operations have a command word, and which builds the
spec's rules describe. -/

namespace Sys2Proof

/-- The operation is encoded in a command word; the other four are not (30_encoding.md R74, R79). -/
def Instr.wf : Instr → Bool
  | .tempUpdate _ => true
  | .tempError => true
  | .voltUpdate _ => true
  | .voltError => true
  | .motion => true
  | .button => true
  | .init => false
  | .wake => false
  | .txComplete _ => false
  | .reset => false

/-- A stream has room for a sample: with N = 0 the push of 40_sample_stream.md R100 would exceed N (10_state.md R22). -/
def Build.hasCapacity (b : Build) : Bool := decide (1 ≤ b.n)

/-- The STATUS layout of 10_state.md R34 holds for N <= 15. -/
def Build.fitsStatus (b : Build) : Bool := decide (b.n ≤ 15)

/-- The parameters of which the rules describe one value only: two streams (10_state.md R20), a 16-bit count (R25), a
frame of five bytes (42_frame_encoder.md R156) and a time count of 1 ms (U10). -/
def Build.hasRuledShape (b : Build) : Bool :=
  decide (b.numStreams = 2 ∧ b.countW = 16 ∧ b.frameBytes = 5 ∧ b.tickUnitMs = 1)

/-- A build the spec's rules describe. -/
def Build.wf (b : Build) : Bool := b.hasCapacity && b.fitsStatus && b.hasRuledShape

end Sys2Proof
end

