-- ==== Sys2Proof/Decode.lean ====
section
/-! DEFINITION. The command decoder of 30_encoding.md R80, total over the 40-bit words, and the encoder of R72 and
R74 after it. -/

namespace Sys2Proof

/-- OPC, `cmd[39:32]` (30_encoding.md R72). -/
def opcodeField (w : CmdWord) : BitVec 8 := w.extractLsb' 32 8

/-- PAYLOAD, `cmd[31:0]` (30_encoding.md R72). -/
def payloadField (w : CmdWord) : BitVec 32 := w.extractLsb' 0 32

/-- A command without a sample: its payload must be zero (30_encoding.md R76). -/
def decodeBare (i : Instr) (p : BitVec 32) : Except DecodeError Instr :=
  if p = 0#32 then .ok i else .error .reservedPayload

/-- The decoder of 30_encoding.md R80. A non-finite sample still decodes to its command. -/
def decode (w : CmdWord) : Except DecodeError Instr :=
  let opc := opcodeField w
  let p := payloadField w
  if opc = 0x01#8 then .ok (.tempUpdate p)
  else if opc = 0x02#8 then decodeBare .tempError p
  else if opc = 0x03#8 then .ok (.voltUpdate p)
  else if opc = 0x04#8 then decodeBare .voltError p
  else if opc = 0x05#8 then decodeBare .motion p
  else if opc = 0x06#8 then decodeBare .button p
  else .error .illegalOpcode

/-- `{OPC, PAYLOAD}` (30_encoding.md R72). -/
def commandWord (opc : BitVec 8) (p : BitVec 32) : CmdWord := opc ++ p

/-- The command word of an operation, for the six that have one (30_encoding.md R74, R79). -/
def encode : Instr → Option CmdWord
  | .tempUpdate p => some (commandWord 0x01#8 p)
  | .tempError => some (commandWord 0x02#8 0#32)
  | .voltUpdate p => some (commandWord 0x03#8 p)
  | .voltError => some (commandWord 0x04#8 0#32)
  | .motion => some (commandWord 0x05#8 0#32)
  | .button => some (commandWord 0x06#8 0#32)
  | .init => none
  | .wake => none
  | .txComplete _ => none
  | .reset => none

/-- The 40-bit word whose low `nbits` bits are those of `w` and whose other bits are zero. -/
def tableWord (nbits w : Nat) : CmdWord := BitVec.ofNat 40 (w % 2 ^ nbits)

/-- What the decoder reads from a word numbered as spec/opcode_table.json numbers it. There is one command length, 40
bits (30_encoding.md R77): a word of another length, shorter or longer, decodes to nothing, and the rows of width 0 have
no word (DEDUCED, log entry 18). -/
def decodeTableWord (nbits w : Nat) : Option Instr :=
  if nbits = 40 then (decode (tableWord nbits w)).toOption else none

end Sys2Proof
end

