-- ==== Sys2Proof/Machine/State.lean ====
section
/-! DEFINITION. The state of the block and of the ports around it, as plain data, and the state after reset. -/

namespace Sys2Proof.Machine

/-- SCH_STATE (10_state.md R27). The encoding 3 never occurs, so there is no fourth constructor. -/
inductive SchState where
  | idle
  | pending
  | waitTx
deriving DecidableEq, Repr

/-- The four error causes (60_exceptions.md R241). -/
inductive ErrCause where
  | illegalOpcode
  | reservedPayload
  | nonfiniteSample
  | spuriousAck
deriving DecidableEq, Repr

/-- An output event of a step, recorded with the NOW of the step (10_state.md R39). -/
inductive OutEvent where
  /-- `emit TxRequest(frame)`, the event of a WAKE step. -/
  | txRequest (frame : Frame) (now : Nat)
  /-- `emit LedPulse`, the event of a successful TX_COMPLETE step. -/
  | ledPulse (now : Nat)
deriving DecidableEq, Repr

/-- What the environment does before one clock edge: the input ports of 30_encoding.md R70. By its form it keeps host
duties 1 and 2 of 60_exceptions.md R255: time only moves forward, and commands are only added behind those offered.
A move against duty 4 or 5 is an error of R241, and an edge can make it. -/
structure Edge where
  /-- `rst` at the edge. -/
  rst : Bool
  /-- How far NOW has advanced since the edge before. -/
  elapsed : Nat
  /-- The commands the collaborators raise before the edge, in the order the host chose (20_memory.md R62). -/
  offer : List CmdWord
  /-- `tx_ack` at the edge. -/
  txAck : Bool
  /-- `tx_ok` at the edge: a draw (44_transmission_controller.md R211). -/
  txOk : Bool
  /-- The block's own choice at the edge: a due WAKE is taken now (43_report_scheduler.md R185, R186). -/
  wakeTurn : Bool
deriving DecidableEq, Repr

/-- An edge at which the environment does nothing and the block takes a due WAKE. -/
def Edge.quiet : Edge where
  rst := false
  elapsed := 0
  offer := []
  txAck := false
  txOk := false
  wakeTurn := true

/-- The block's registers (10_state.md R20 to R30), the ports at the coming clock edge (30_encoding.md R70), and the
model's own record of inputs to come and outputs made. -/
structure State where
  /-- The build parameters: constant, carried here so that `exec` and `step` take them as an argument (R6, R36). -/
  build : Build
  /-- TS.seq, the temperature stream, oldest first (R21). -/
  ts : List Pattern
  /-- VS.seq, the voltage stream, oldest first (R21). -/
  vs : List Pattern
  /-- MC_COUNT (R25). -/
  mcCount : BitVec 16
  /-- MC_NEXT, below 2^TICK_W (R26). -/
  mcNext : Nat
  /-- SCH_STATE (R27). -/
  schState : SchState
  /-- WAKE_AT, below 2^TICK_W (R28). -/
  wakeAt : Nat
  /-- TX_FRAME (R29). -/
  txFrame : Frame
  /-- ERR, bit k set by cause k (R30). -/
  err : BitVec 4
  /-- `led_pulse` as the step that led here drove it (R39). -/
  ledPulse : Bool
  /-- The run's output trace, oldest first (R39). -/
  events : List OutEvent
  /-- Port `rst`. -/
  rst : Bool
  /-- Port `now`, below 2^TICK_W (R37). -/
  now : Nat
  /-- The commands offered and not yet accepted, oldest first: `cmd_valid` is that there is one and `cmd` is the first
  (30_encoding.md R71, 70_reset_and_hazards.md R274). -/
  cmdQueue : List CmdWord
  /-- Port `tx_ack`. -/
  txAck : Bool
  /-- Port `tx_ok`. -/
  txOk : Bool
  /-- The block's choice at this edge: take a due WAKE now (R185, R186). -/
  wakeTurn : Bool
  /-- The edges to come. -/
  script : List Edge
  /-- How many steps have been taken: the model's own counter, read by the free values of the observation port. -/
  stepNo : Nat
deriving DecidableEq, Repr

/-- No step of this block ends in a fault: "There are no fatal/unrecoverable conditions in this core" (00_scope.md
R16). An input error is a next state with an ERR bit set (60_exceptions.md R242). Nobody raises one. -/
inductive Fault where
deriving DecidableEq, Repr

/-- Why a step has no meaning. -/
inductive Refusal where
  /-- Raised by an arm of `exec` whose instruction has no meaning yet; none is left. Safe. -/
  | notModelled (mnemonic : String)
  /-- `refuse(TimeOverflow)` of 43_report_scheduler.md R187, raised by MOTION, BUTTON, INIT and TX_COMPLETE when a
  computed time does not fit TICK_W bits. Safe: what a build does after it wraps is not specified (U3). -/
  | timeOverflow
deriving DecidableEq, Repr

/-- The edge after the end of `script`: quiet, but for the radio, which answers a request that is still open. So every
request is answered after finitely many edges, host duty 3 of 60_exceptions.md R255 (DESIGN CHOICE, log entry 1). In
PENDING the turn alternates between WAKE and the command port, and WAIT_TX keeps it, so that an enabled WAKE and an
offered command are both taken after finitely many steps (43_report_scheduler.md R186; DESIGN CHOICE, log entry 17). -/
def State.unscriptedEdge (s : State) : Edge :=
  match s.schState with
  | .idle => Edge.quiet
  | .pending => { Edge.quiet with wakeTurn := !s.wakeTurn }
  | .waitTx =>
    { Edge.quiet with txAck := true, txOk := Config.radioAnswer s.stepNo, wakeTurn := s.wakeTurn }

/-- The edge that comes next. -/
def State.comingEdge (s : State) : Edge := s.script.head?.getD s.unscriptedEdge

/-- What a meaning answers. -/
abbrev Result := Host.Outcome State Fault Refusal

/-- The machine right after reset: the registers as 70_reset_and_hazards.md R270 lists them. DESIGN CHOICE: the
standard build, NOW = 0, ports at rest and nothing to come (log entries 1 to 3). -/
def State.reset : State where
  build := Build.standard
  ts := []
  vs := []
  mcCount := 0#16
  mcNext := 0
  schState := .idle
  wakeAt := 0
  txFrame := 0#40
  err := 0#4
  ledPulse := false
  events := []
  rst := false
  now := 0
  cmdQueue := []
  txAck := false
  txOk := false
  wakeTurn := true
  script := []
  stepNo := 0

end Sys2Proof.Machine
end

