-- ==== Sys2Proof/Machine/Flags.lean ====
section
/-! DEFINITION. The error bits, the only flags of the block (10_state.md R30, R33), and the encoding of SCH_STATE. -/

namespace Sys2Proof.Machine

/-- The index of a cause's bit in ERR (60_exceptions.md R241). -/
def ErrCause.code : ErrCause → Nat
  | .illegalOpcode => 0
  | .reservedPayload => 1
  | .nonfiniteSample => 2
  | .spuriousAck => 3

/-- ERR with the bit of a cause set and the others as they were (10_state.md R30, 60_exceptions.md R246). -/
def setErrBit (err : BitVec 4) (c : ErrCause) : BitVec 4 := err ||| BitVec.twoPow 4 c.code

/-- The error cause of a word that spells no command (30_encoding.md R75, R76). -/
def causeOf : DecodeError → ErrCause
  | .illegalOpcode => .illegalOpcode
  | .reservedPayload => .reservedPayload

/-- The two-bit encoding of SCH_STATE (10_state.md R27). -/
def SchState.code : SchState → BitVec 2
  | .idle => 0#2
  | .pending => 1#2
  | .waitTx => 2#2

end Sys2Proof.Machine
end

