-- ==== Sys2Proof/Machine/Operands.lean ====
section
/-! DEFINITION. The one operand form, a binary32 sample, and the arithmetic on it: its value, rounding to binary32,
and the integer roundings of the frame encoder. Arithmetic is exact over the rationals, then narrowed. -/

namespace Sys2Proof.Machine

/-- The exponent field `p[30:23]` (00_scope.md R12). -/
def exponentField (p : Pattern) : BitVec 8 := p.extractLsb' 23 8

/-- The fraction field `p[22:0]` (00_scope.md R12). -/
def fractionField (p : Pattern) : BitVec 23 := p.extractLsb' 0 23

/-- A pattern is finite when its exponent field is not 255 (00_scope.md R12). -/
def isFinite (p : Pattern) : Bool := decide (exponentField p ≠ 0xFF#8)

/-- `val32` (00_scope.md R12). The value of a non-finite pattern is undefined: a free value. -/
def val32 (p : Pattern) : Rat :=
  let sign : Rat := if p.msb then -1 else 1
  let e := (exponentField p).toNat
  let f := (fractionField p).toNat
  if e = 255 then Config.undefinedVal32 p
  else if e = 0 then sign * (f : Rat) * 2 ^ (-149 : Int)
  else sign * ((2 ^ 23 + f : Nat) : Rat) * 2 ^ ((e : Int) - 150)

/-- `round_HALF_EVEN` (00_scope.md R14). -/
def roundHalfEven (x : Rat) : Int :=
  let lower := ⌊x⌋
  let frac := x - lower
  if frac < 1 / 2 then lower
  else if 1 / 2 < frac then lower + 1
  else if lower % 2 = 0 then lower
  else lower + 1

/-- `sign(x)` as an integer factor. -/
def ratSign (x : Rat) : Int := if x < 0 then -1 else 1

/-- `round_HALF_AWAY` (00_scope.md R14). -/
def roundHalfAway (x : Rat) : Int := ratSign x * ⌊|x| + 1 / 2⌋

/-- `round_HALF_UP` (00_scope.md R14). -/
def roundHalfUp (x : Rat) : Int := ⌊x + 1 / 2⌋

/-- `round_TRUNC` (00_scope.md R14). -/
def roundTrunc (x : Rat) : Int := ratSign x * ⌊|x|⌋

/-- `roundT` (42_frame_encoder.md R153). -/
def roundT (r : TempRound) (x : Rat) : Int :=
  match r with
  | .halfEven => roundHalfEven x
  | .halfAway => roundHalfAway x
  | .halfUp => roundHalfUp x
  | .trunc => roundTrunc x

/-- `clamp` (00_scope.md R14). -/
def clampInt (v lo hi : Int) : Int := min (max v lo) hi

/-- The unit in the last place of a binary32 value of magnitude `a > 0` (00_scope.md R13). -/
def ulp32 (a : Rat) : Rat := 2 ^ (max (Int.log 2 a) (-126) - 23)

/-- `rne32` of a rational: round to nearest, ties to even, into binary32 (00_scope.md R13). -/
def rne32 (q : Rat) : Value32 :=
  if q = 0 then .fin 0
  else if (2 : Rat) ^ 128 - 2 ^ 103 ≤ |q| then (if q < 0 then .negInf else .posInf)
  else .fin ((ratSign q : Rat) * (roundHalfEven (|q| / ulp32 |q|) : Rat) * ulp32 |q|)

/-- `add32(x, y)` with a finite second operand, the only kind the spec adds (00_scope.md R13). -/
def add32 (x : Value32) (y : Rat) : Value32 :=
  match x with
  | .fin q => rne32 (q + y)
  | .posInf => .posInf
  | .negInf => .negInf

/-- `div32(x, n)` for a positive count (00_scope.md R13). -/
def div32 (x : Value32) (n : Nat) : Value32 :=
  match x with
  | .fin q => rne32 (q / n)
  | .posInf => .posInf
  | .negInf => .negInf

/-- `mul32(x, y)` for a positive rational factor (00_scope.md R13). -/
def mul32 (x : Value32) (y : Rat) : Value32 :=
  match x with
  | .fin q => rne32 (q * y)
  | .posInf => .posInf
  | .negInf => .negInf

/-- The pattern of a binary32 value: what a DECIMAL sample literal denotes (30_encoding.md R82). Zero gives the
pattern 0x00000000 (DESIGN CHOICE, log entry 14). -/
def pattern32 (v : Value32) : Pattern :=
  match v with
  | .posInf => 0x7F800000#32
  | .negInf => 0xFF800000#32
  | .fin q =>
    if q = 0 then 0#32
    else
      let sign : BitVec 1 := if q < 0 then 1#1 else 0#1
      let m := ⌊|q| / ulp32 |q|⌋.toNat
      let e := if m < 2 ^ 23 then 0 else (Int.log 2 |q| + 127).toNat
      sign ++ BitVec.ofNat 8 e ++ BitVec.ofNat 23 m

end Sys2Proof.Machine
end

