-- ==== Sys2Proof/Machine/Ops.lean ====
section
/-! DEFINITION. The operations the meanings share: the command handshake, raising an error, the stream primitives and
the average, the motion counter's clear, the planning primitives and the output events. -/

namespace Sys2Proof.Machine

/-- `cmd_ready`: high exactly when SCH_STATE = PENDING and `rst` is low (30_encoding.md R71). -/
def State.cmdReady (s : State) : Bool := decide (s.schState = .pending) && !s.rst

/-- `hold`: the operation is not enabled, the input waits and nothing changes (00_scope.md R11, R16;
DEDUCED, log entry 7). -/
def held (s : State) : Result := .next s

/-- A command's effect where the block accepts it; otherwise the command is held (30_encoding.md R71). -/
def whenAccepted (s : State) (effect : Result) : Result := if s.cmdReady then effect else held s

/-- `raise Error(c)`: the block's whole error action, ERR[c] set and nothing else changed (60_exceptions.md R242).
There is no trap entry, and no return from one: only reset clears ERR (R245, R246; DEDUCED, log entry 19). -/
def State.raiseError (s : State) (c : ErrCause) : State := { s with err := setErrBit s.err c }

/-- `push` on a stream of capacity `n`: the oldest sample is evicted first when it is full (40_sample_stream.md R100). -/
def pushSeq (n : Nat) (seq : List Pattern) (p : Pattern) : List Pattern :=
  if seq.length = n then seq.tail ++ [p] else seq ++ [p]

/-- Write TS.seq. -/
def State.setTs (s : State) (seq : List Pattern) : State := { s with ts := seq }

/-- Write VS.seq. -/
def State.setVs (s : State) (seq : List Pattern) : State := { s with vs := seq }

/-- The exact sum of the values held (40_sample_stream.md R102). -/
def exactSum (seq : List Pattern) : Rat := (seq.map val32).sum

/-- The exact mean of the values held, for a stream that is not empty (40_sample_stream.md R102, R104). -/
def exactMean (seq : List Pattern) : Rat := exactSum seq / (seq.length : Rat)

/-- The binary32 running sum, oldest sample first (40_sample_stream.md R103). -/
def seqSum32 (seq : List Pattern) : Value32 := seq.foldl (fun acc p => add32 acc (val32 p)) (.fin 0)

/-- The average of a stream that is not empty, per ARITH (40_sample_stream.md R102 to R104). -/
def meanOf (a : ArithMode) (seq : List Pattern) : Value32 :=
  match a with
  | .cr32 => rne32 (exactMean seq)
  | .seq32 => div32 (seqSum32 seq) seq.length
  | .exact => .fin (exactMean seq)

/-- `avg(S)`: no data when the stream is empty, else its mean (40_sample_stream.md R102 to R104). -/
def avg (a : ArithMode) (seq : List Pattern) : Option Value32 :=
  if seq.isEmpty then none else some (meanOf a seq)

/-- Write MC_COUNT. -/
def State.setCount (s : State) (c : BitVec 16) : State := { s with mcCount := c }

/-- Write MC_NEXT. -/
def State.setMcNext (s : State) (t : Nat) : State := { s with mcNext := t }

/-- Where MC_COUNT saturates: the greatest count of COUNT_W bits, 65535 for the 16 of 00_scope.md R6. A width above the
16 bits of the frame's field has no rule and saturates there too (DESIGN CHOICE, log entry 2). -/
def countMax (b : Build) : Nat := 2 ^ min b.countW 16 - 1

/-- `min(MC_COUNT + 1, 65535)` (41_motion_counter.md R130). -/
def bumpCount (b : Build) (c : BitVec 16) : BitVec 16 := BitVec.ofNat 16 (min (c.toNat + 1) (countMax b))

/-- `mc_reset()`: MC_COUNT cleared, MC_NEXT unchanged (41_motion_counter.md R133). -/
def State.mcReset (s : State) : State := s.setCount 0#16

/-- Continue with `base + off` where it fits TICK_W bits; else `refuse(TimeOverflow)` (43_report_scheduler.md R187; log
entry 4). -/
def withTime (b : Build) (base off : Nat) (k : Nat → State) : Result :=
  if base + off < 2 ^ b.tickW then .next (k (base + off)) else .refused .timeOverflow

/-- `plan_absolute(t)`: overwrite the one pending wake (43_report_scheduler.md R180). -/
def State.planAbsolute (s : State) (t : Nat) : State := { s with wakeAt := t }

/-- `plan_now(off)` (43_report_scheduler.md R180). -/
def planNow (s : State) (off : Nat) : Result := withTime s.build s.now off s.planAbsolute

/-- `plan_current_relative(off)`: from the running cycle's nominal time (43_report_scheduler.md R181). -/
def planCurrentRelative (s : State) (off : Nat) : Result := withTime s.build s.wakeAt off s.planAbsolute

/-- Write SCH_STATE. -/
def State.setSch (s : State) (x : SchState) : State := { s with schState := x }

/-- Write TX_FRAME. -/
def State.setFrame (s : State) (f : Frame) : State := { s with txFrame := f }

/-- `emit TxRequest(frame)`, recorded with NOW (10_state.md R39). -/
def State.emitTxRequest (s : State) (f : Frame) : State :=
  { s with events := s.events ++ [.txRequest f s.now] }

/-- `emit LedPulse`: `led_pulse` is high in this step (10_state.md R39). -/
def State.emitLedPulse (s : State) : State :=
  { s with ledPulse := true, events := s.events ++ [.ledPulse s.now] }

/-- The wake enable, but for `rst`: SCH_STATE = PENDING and NOW >= WAKE_AT (43_report_scheduler.md R183). -/
def State.wakeDue (s : State) : Bool := decide (s.schState = .pending ∧ s.wakeAt ≤ s.now)

/-- Every register at its reset value, with `led_pulse` low (70_reset_and_hazards.md R270). The ports are inputs, and
the output trace is a record: reset changes neither. -/
def State.resetRegisters (s : State) : State :=
  { s with
    ts := [], vs := [], mcCount := 0#16, mcNext := 0, schState := .idle, wakeAt := 0,
    txFrame := 0#40, err := 0#4, ledPulse := false }

end Sys2Proof.Machine
end

