-- ==== Sys2Proof/Machine/Frame.lean ====
section
/-! DEFINITION. frame_encoder, the combinational function from the two averages and the motion count to the five-byte
report frame (42_frame_encoder.md). -/

namespace Sys2Proof.Machine

/-- The scaling by ten (42_frame_encoder.md R151). -/
def scaleTen (a : ArithMode) (v : Value32) : Value32 :=
  match a, v with
  | .exact, .fin q => .fin (10 * q)
  | _, v => mul32 v 10

/-- Byte 0 from the scaled voltage (42_frame_encoder.md R152). -/
def voltCodeOf (x : Value32) : BitVec 8 :=
  match x with
  | .posInf => 255#8
  | .negInf => 0#8
  | .fin q => BitVec.ofInt 8 (clampInt ⌈q⌉ 0 255)

/-- `volt_code(va)` (42_frame_encoder.md R152). -/
def voltCode (b : Build) (va : Option Value32) : BitVec 8 :=
  match va with
  | none => b.voltSentinel
  | some v => voltCodeOf (scaleTen b.arith v)

/-- The integer temperature code from the scaled temperature (42_frame_encoder.md R154). -/
def tempInt (r : TempRound) (x : Value32) : Int :=
  match x with
  | .posInf => 32767
  | .negInf => -32768
  | .fin q => clampInt (roundT r q) (-32768) 32767

/-- `temp_code(ta)`, in two's complement (42_frame_encoder.md R154). -/
def tempCode (b : Build) (ta : Option Value32) : BitVec 16 :=
  match ta with
  | none => b.tempSentinel
  | some v => BitVec.ofInt 16 (tempInt b.tempRound (scaleTen b.arith v))

/-- `encode(va, ta, c)`: byte 0, bytes 1-2 and bytes 3-4, most significant first (42_frame_encoder.md R156). -/
def encodeFrame (b : Build) (va ta : Option Value32) (c : BitVec 16) : Frame :=
  voltCode b va ++ tempCode b ta ++ c

/-- Byte `k` of a frame, `tx_frame[39-8k : 32-8k]` in a frame of five (20_memory.md R54). -/
def frameByte (b : Build) (f : Frame) (k : Nat) : BitVec 8 := f.extractLsb' (8 * (b.frameBytes - 1 - k)) 8

/-- The bytes of a frame in the order in which the radio sends them, byte 0 first (20_memory.md R54). -/
def sentBytes (b : Build) (f : Frame) : List (BitVec 8) := (List.range b.frameBytes).map (frameByte b f)

/-- The frame a WAKE step builds from the state (44_transmission_controller.md R210). -/
def reportFrame (s : State) : Frame :=
  encodeFrame s.build (avg s.build.arith s.vs) (avg s.build.arith s.ts) s.mcCount

end Sys2Proof.Machine
end

