-- ==== Sys2Proof/Machine/Controller.lean ====
section
/-! DEFINITION. transmission_controller: the WAKE and TX_COMPLETE steps, and the RESET step
(44_transmission_controller.md, 70_reset_and_hazards.md). -/

namespace Sys2Proof.Machine

/-- WAKE: sample, encode and request the send, enabled when SCH_STATE = PENDING, NOW >= WAKE_AT and `rst` is low
(44_transmission_controller.md R210, 60_exceptions.md R248). WAKE_AT is not written. -/
def execWake (s : State) : Result :=
  if s.wakeDue && !s.rst then
    .next (((s.setFrame (reportFrame s)).setSch .waitTx).emitTxRequest (reportFrame s))
  else held s

/-- The success branch of TX_COMPLETE (44_transmission_controller.md R212). -/
def txSuccess (s : State) : Result :=
  planCurrentRelative (s.setSch .pending).mcReset.emitLedPulse s.build.successMs

/-- The failure branch of TX_COMPLETE (44_transmission_controller.md R213). -/
def txFailure (s : State) : Result := planCurrentRelative (s.setSch .pending) s.build.retryMs

/-- TX_COMPLETE: the radio's answer `tx_ack` with `tx_ok = ok` (44_transmission_controller.md R211). In any other
state than WAIT_TX the answer is SPURIOUS_ACK (30_encoding.md R78); while `rst` is high it is not taken (R270). -/
def execTxComplete (ok : Bool) (s : State) : Result :=
  if s.rst then held s
  else if s.schState = .waitTx then (if ok then txSuccess s else txFailure s)
  else .next (s.raiseError .spuriousAck)

/-- RESET: every register returns to its reset value, whatever else is enabled (70_reset_and_hazards.md R270). -/
def execReset (s : State) : Result := .next s.resetRegisters

end Sys2Proof.Machine
end

