-- ==== Sys2Proof/Machine/Motion.lean ====
section
/-! DEFINITION. motion_debounce_counter: the MOTION command (41_motion_counter.md). -/

namespace Sys2Proof.Machine

/-- MOTION: count one trigger unless it is debounced (41_motion_counter.md R130), or, in a build without the debounce
gate, count every trigger and leave MC_NEXT alone (R134). -/
def execMotion (s : State) : Result :=
  whenAccepted s <|
    if s.build.debounceEn then
      if s.now < s.mcNext then .next s
      else withTime s.build s.now s.build.debounceMs (s.setCount (bumpCount s.build s.mcCount)).setMcNext
    else .next (s.setCount (bumpCount s.build s.mcCount))

end Sys2Proof.Machine
end

