-- ==== Sys2Proof/Machine/Sample.lean ====
section
/-! DEFINITION. The four commands of the sample streams (40_sample_stream.md). -/

namespace Sys2Proof.Machine

/-- TEMP_UPDATE: feed one temperature sample (40_sample_stream.md R105). -/
def execTempUpdate (p : Pattern) (s : State) : Result :=
  whenAccepted s <|
    if isFinite p then .next (s.setTs (pushSeq s.build.n s.ts p))
    else .next (s.raiseError .nonfiniteSample)

/-- TEMP_ERROR: clear the temperature stream (40_sample_stream.md R106). Its word's payload is zero, or it would not
have decoded to this command (30_encoding.md R80). -/
def execTempError (s : State) : Result := whenAccepted s (.next (s.setTs []))

/-- VOLT_UPDATE: feed one supply-voltage sample (40_sample_stream.md R107). -/
def execVoltUpdate (p : Pattern) (s : State) : Result :=
  whenAccepted s <|
    if isFinite p then .next (s.setVs (pushSeq s.build.n s.vs p))
    else .next (s.raiseError .nonfiniteSample)

/-- VOLT_ERROR: clear the voltage stream (40_sample_stream.md R108). -/
def execVoltError (s : State) : Result := whenAccepted s (.next (s.setVs []))

end Sys2Proof.Machine
end

