-- ==== Sys2Proof/Machine/Scheduler.lean ====
section
/-! DEFINITION. report_scheduler: the BUTTON command and the INIT step (43_report_scheduler.md). -/

namespace Sys2Proof.Machine

/-- BUTTON: force an immediate report cycle; SCH_STATE stays PENDING (43_report_scheduler.md R184). -/
def execButton (s : State) : Result := whenAccepted s (planNow s s.build.buttonOffsetMs)

/-- INIT: plan the first report cycle, enabled when SCH_STATE = IDLE and `rst` is low (43_report_scheduler.md R182). -/
def execInit (s : State) : Result :=
  if s.schState = .idle ∧ s.rst = false then planNow (s.setSch .pending) s.build.firstDelayMs else held s

end Sys2Proof.Machine
end

