-- ==== Sys2Proof/Machine/Dispatch.lean ====
section
/-! DEFINITION. One arm per operation of spec/opcode_table.json. -/

namespace Sys2Proof.Machine

/-- What the block does when one operation is presented to it. -/
def exec (i : Instr) (s : State) : Host.Outcome State Fault Refusal :=
  match i with
  | .tempUpdate p => Sys2Proof.Machine.execTempUpdate p s
  | .tempError => Sys2Proof.Machine.execTempError s
  | .voltUpdate p => Sys2Proof.Machine.execVoltUpdate p s
  | .voltError => Sys2Proof.Machine.execVoltError s
  | .motion => Sys2Proof.Machine.execMotion s
  | .button => Sys2Proof.Machine.execButton s
  | .init => Sys2Proof.Machine.execInit s
  | .wake => Sys2Proof.Machine.execWake s
  | .txComplete ok => Sys2Proof.Machine.execTxComplete ok s
  | .reset => Sys2Proof.Machine.execReset s

end Sys2Proof.Machine
end

