-- ==== Sys2Proof/Machine/Ports.lean ====
section
/-! DEFINITION. What happens at a clock edge around an operation: which step the edge takes, what the handshakes
consume, how the environment moves on, and what the output and observation ports show. -/

namespace Sys2Proof.Machine

/-- What one step of the machine does. -/
abbrev Move := Option (Sum Instr CmdWord)

/-- The step taken at this edge (60_exceptions.md R248): `rst` overrides everything; an ack comes next, as TX_COMPLETE
in WAIT_TX and else as the SPURIOUS_ACK step that precedes the edge's other step; then INIT in IDLE; in PENDING a due
WAKE if this edge is its turn, else an offered command (43_report_scheduler.md R186; DESIGN CHOICE, log entries 5
and 6). -/
def pick (s : State) : Move :=
  if s.rst then some (.inl .reset)
  else if s.txAck then some (.inl (.txComplete s.txOk))
  else
    match s.schState with
    | .idle => some (.inl .init)
    | .pending =>
      if s.wakeDue && s.wakeTurn then some (.inl .wake)
      else s.cmdQueue.head?.map .inr
    | .waitTx => none

/-- Accepting a command word: the command it spells is performed, or its error cause is raised (30_encoding.md R80). -/
def acceptWord (w : CmdWord) (s : State) : Result :=
  match decode w with
  | .ok i => exec i s
  | .error e => .next (s.raiseError (causeOf e))

/-- Perform a move. -/
def perform (m : Move) (s : State) : Result :=
  match m with
  | some (.inl i) => exec i s
  | some (.inr w) => acceptWord w s
  | none => held s

/-- `led_pulse` is low unless this step raises it (10_state.md R39; DESIGN CHOICE, log entry 11). -/
def State.beginStep (s : State) : State := { s with ledPulse := false }

/-- The handshake consumes the accepted command (60_exceptions.md R242). -/
def State.dropCommand (s : State) : State := { s with cmdQueue := s.cmdQueue.tail }

/-- The time bus after the environment's clock has advanced: never lower, and never beyond TICK_W bits (10_state.md
R37). DESIGN CHOICE: a clock at its top stays there (log entry 10). -/
def advanceNow (b : Build) (now elapsed : Nat) : Nat := max now (min (now + elapsed) (2 ^ b.tickW - 1))

/-- The environment moves on to the next clock edge. -/
def State.nextEdge (s : State) : State :=
  let e := s.comingEdge
  { s with
    rst := e.rst, now := advanceNow s.build s.now e.elapsed, cmdQueue := s.cmdQueue ++ e.offer,
    txAck := e.txAck, txOk := e.txOk, wakeTurn := e.wakeTurn,
    script := s.script.tail, stepNo := s.stepNo + 1 }

/-- A spurious ack is answered and the edge goes on with its other step (60_exceptions.md R248 item 4). -/
def State.dropAck (s : State) : State := { s with txAck := false, stepNo := s.stepNo + 1 }

/-- The move at this edge is a SPURIOUS_ACK step, judged on SCH_STATE at the start of the edge (R248 item 4). -/
def State.ackIsSpurious (s : State) : Bool := !s.rst && s.txAck && decide (s.schState ≠ .waitTx)

/-- From the state `s` at the start of the step and `t` after its move, the state the next step starts from. -/
def settle (s t : State) : State :=
  if s.ackIsSpurious then t.dropAck
  else
    match pick s with
    | some (.inr _) => t.dropCommand.nextEdge
    | _ => t.nextEdge

/-- Offer a command word in front of the others, at an edge that accepts it: SCH_STATE = PENDING, `rst` and `tx_ack`
low, and the turn given to the command (DESIGN CHOICE, log entry 12). -/
def State.offerNow (s : State) (w : CmdWord) : State :=
  { s with
    schState := .pending, rst := false, txAck := false, wakeTurn := false,
    cmdQueue := w :: s.cmdQueue }

/-- `cmd_valid` (30_encoding.md R70). -/
def State.cmdValid (s : State) : Bool := !s.cmdQueue.isEmpty

/-- `tx_req`: high exactly when SCH_STATE = WAIT_TX (10_state.md R39). -/
def State.txReq (s : State) : Bool := decide (s.schState = .waitTx)

/-- `err`: high exactly when ERR is not 0 (10_state.md R30). -/
def State.errOut (s : State) : Bool := decide (s.err ≠ 0#4)

/-- `obs_status`, the STATUS view (10_state.md R34). The layout is given for N <= 15; the view of a larger build is a
free value. -/
def State.status (s : State) : BitVec 32 :=
  if s.build.fitsStatus then
    s.mcCount ++ BitVec.ofNat 4 s.vs.length ++ BitVec.ofNat 4 s.ts.length ++ s.err ++ 0#2 ++ s.schState.code
  else Config.wideStatus s.stepNo

/-- `obs_wake_at` (10_state.md R35). -/
def State.obsWakeAt (s : State) : BitVec s.build.tickW := BitVec.ofNat _ s.wakeAt

/-- `obs_mc_next` (10_state.md R35). -/
def State.obsMcNext (s : State) : BitVec s.build.tickW := BitVec.ofNat _ s.mcNext

/-- `obs_ts_valid[k]` (10_state.md R35). -/
def State.obsTsValid (s : State) (k : Nat) : Bool := decide (k < s.ts.length)

/-- `obs_vs_valid[k]` (10_state.md R35). -/
def State.obsVsValid (s : State) (k : Nat) : Bool := decide (k < s.vs.length)

/-- `obs_ts[k]`, the k-th oldest held pattern; any value where there is none (10_state.md R35). -/
def State.obsTs (s : State) (k : Nat) : Pattern := s.ts[k]?.getD (Config.undrivenObsTs k s.stepNo)

/-- `obs_vs[k]`, the k-th oldest held pattern; any value where there is none (10_state.md R35). -/
def State.obsVs (s : State) (k : Nat) : Pattern := s.vs[k]?.getD (Config.undrivenObsVs k s.stepNo)

end Sys2Proof.Machine
end

