-- ==== Sys2Proof/Machine/Step.lean ====
section
/-! DEFINITION. One step of the machine: the move of the coming clock edge, then the environment's next edge. -/

namespace Sys2Proof.Machine

/-- One step (00_scope.md R7): the move `pick` chooses is performed whole, then its input is consumed and the ports
take the values of the next edge. -/
def step (s : State) : Host.Outcome State Fault Refusal :=
  match perform (pick s) s.beginStep with
  | .next t => .next (settle s t)
  | .fault r => .fault r
  | .refused r => .refused r

/-- `s` with the word offered on the command port at an edge that accepts it, so that the next step runs it. -/
def State.withFetchWord (s : State) (nbits w : Nat) : State := s.offerNow (tableWord nbits w)

end Sys2Proof.Machine
end

