-- ==== Sys2Proof/Machine/Trace.lean ====
section
/-! DEFINITION. The trace syntax of 30_encoding.md R81 and R82: a trace line as data, its reading from characters,
the word it offers, and the run of a trace under the reference schedule of 95_test_vectors.md section 0
(DESIGN CHOICE where R81 is silent, log entry 16). -/

namespace Sys2Proof.Machine

/-- One input of a trace (30_encoding.md R81). A sample is held as the pattern its literal denotes (R82). -/
inductive TraceInput where
  | reset
  | tempUpdate (p : Pattern)
  | voltUpdate (p : Pattern)
  | tempError
  | voltError
  | motion
  | button
  | ack (ok : Bool)
  | raw (w : CmdWord)
deriving DecidableEq, Repr

/-- A trace line: `@time input` (30_encoding.md R81). -/
structure TraceLine where
  time : Nat
  input : TraceInput
deriving DecidableEq, Repr

/-- The command word a trace line offers, for the lines that offer one (30_encoding.md R81). -/
def TraceInput.word : TraceInput → Option CmdWord
  | .reset => none
  | .ack _ => none
  | .raw w => some w
  | .tempUpdate p => encode (.tempUpdate p)
  | .voltUpdate p => encode (.voltUpdate p)
  | .tempError => encode .tempError
  | .voltError => encode .voltError
  | .motion => encode .motion
  | .button => encode .button

/-- The value of a decimal digit. -/
def decimalDigit (c : Char) : Option Nat :=
  if 48 ≤ c.toNat ∧ c.toNat ≤ 57 then some (c.toNat - 48) else none

/-- The value of a hexadecimal digit, of either case. -/
def hexDigit (c : Char) : Option Nat :=
  if 48 ≤ c.toNat ∧ c.toNat ≤ 57 then some (c.toNat - 48)
  else if 65 ≤ c.toNat ∧ c.toNat ≤ 70 then some (c.toNat - 55)
  else if 97 ≤ c.toNat ∧ c.toNat ≤ 102 then some (c.toNat - 87)
  else none

/-- A number from its digits in the given base, most significant first. -/
def readDigits (base : Nat) (digit : Char → Option Nat) : List Char → Nat → Option Nat
  | [], acc => some acc
  | c :: cs, acc =>
    match digit c with
    | some d => readDigits base digit cs (acc * base + d)
    | none => none

/-- A number from at least one digit. -/
def readNat (base : Nat) (digit : Char → Option Nat) (cs : List Char) : Option Nat :=
  if cs.isEmpty then none else readDigits base digit cs 0

/-- The text after the given beginning, if the text begins so. -/
def afterText : List Char → List Char → Option (List Char)
  | [], cs => some cs
  | _ :: _, [] => none
  | x :: xs, c :: cs => if x = c then afterText xs cs else none

/-- A literal of `0x` and exactly `n` hexadecimal digits. -/
def readHex (n : Nat) (cs : List Char) : Option Nat :=
  match afterText ['0', 'x'] cs with
  | some ds => if ds.length = n then readNat 16 hexDigit ds else none
  | none => none

/-- The exact value of an unsigned DECIMAL: digits, then perhaps a point and more digits. -/
def readUnsigned (cs : List Char) : Option Rat :=
  let whole := cs.takeWhile (· ≠ '.')
  match cs.drop whole.length with
  | [] => (readNat 10 decimalDigit whole).map fun n => (n : Rat)
  | _ :: frac =>
    if whole.isEmpty || frac.isEmpty then none
    else (readNat 10 decimalDigit (whole ++ frac)).map fun n => (n : Rat) / 10 ^ frac.length

/-- The exact value of a DECIMAL, with a minus sign or without. -/
def readDecimal (cs : List Char) : Option Rat :=
  match cs with
  | '-' :: ds => (readUnsigned ds).map fun q => -q
  | ds => readUnsigned ds

/-- A sample literal: a pattern of eight hexadecimal digits, or a decimal and its nearest binary32 (30_encoding.md
R81, R82). -/
def readSample (cs : List Char) : Option Pattern :=
  match afterText ['0', 'x'] cs with
  | some _ => (readHex 8 cs).map fun n => BitVec.ofNat 32 n
  | none => (readDecimal cs).map fun q => pattern32 (rne32 q)

/-- The input of a trace line (30_encoding.md R81). -/
def readInput (cs : List Char) : Option TraceInput :=
  if cs = "RESET".toList then some .reset
  else if cs = "TEMP_ERROR".toList then some .tempError
  else if cs = "VOLT_ERROR".toList then some .voltError
  else if cs = "MOTION".toList then some .motion
  else if cs = "BUTTON".toList then some .button
  else if cs = "ACK OK".toList then some (.ack true)
  else if cs = "ACK FAIL".toList then some (.ack false)
  else
    match afterText "TEMP_UPDATE ".toList cs with
    | some d => (readSample d).map .tempUpdate
    | none =>
      match afterText "VOLT_UPDATE ".toList cs with
      | some d => (readSample d).map .voltUpdate
      | none =>
        match afterText "RAW ".toList cs with
        | some d => (readHex 10 d).map fun n => .raw (BitVec.ofNat 40 n)
        | none => none

/-- The text before the first ` ; `, where a comment begins (30_encoding.md R81). -/
def beforeComment : List Char → List Char
  | [] => []
  | ' ' :: ';' :: ' ' :: _ => []
  | c :: cs => c :: beforeComment cs

/-- The text without its trailing spaces: the programs of 95_test_vectors.md pad a line before its comment. -/
def dropPadding (cs : List Char) : List Char := (cs.reverse.dropWhile (· = ' ')).reverse

/-- A bracketed encoding such as `[0x03406AE148]`, if there is one, is the word of the line's command. The programs of
95_test_vectors.md have one on each command line, and the grammar of 30_encoding.md R81 has none: the reader takes a
line with it or without, and refuses one that shows another word (DESIGN CHOICE, log entry 16). -/
def encodingAgrees (enc : List Char) (i : TraceInput) : Bool :=
  match enc with
  | [] => true
  | _ :: ds =>
    match ds.getLast?, readHex 10 ds.dropLast, i.word with
    | some ']', some n, some w => decide (w.toNat = n)
    | _, _, _ => false

/-- A trace line (30_encoding.md R81), with its encoding in brackets perhaps. -/
def readLine (cs : List Char) : Option TraceLine :=
  let text := dropPadding (beforeComment cs)
  let body := text.takeWhile (· ≠ '[')
  match dropPadding body with
  | '@' :: ds =>
    let t := ds.takeWhile (· ≠ ' ')
    match ds.drop t.length with
    | ' ' :: rest =>
      match readNat 10 decimalDigit t, readInput rest with
      | some n, some i => if encodingAgrees (text.drop body.length) i then some ⟨n, i⟩ else none
      | _, _ => none
    | _ => none
  | _ => none

/-- The NOW of a line's step: the line's time, if it has not passed. A TIME of 2^TICK_W or more, for which 30_encoding.md
R81 gives no reading, stands for the clock's top, the greatest value of the bus (DESIGN CHOICE, log entry 16). -/
def TraceLine.nowAt (l : TraceLine) (s : State) : Nat := advanceNow s.build s.now (l.time - s.now)

/-- Put a line's input on the ports: the line is the environment's whole move at its edge (30_encoding.md R81). -/
def TraceLine.place (l : TraceLine) (s : State) : State :=
  let s := { s with now := l.nowAt s, rst := false, txAck := false, wakeTurn := true }
  match l.input with
  | .reset => { s with rst := true }
  | .ack ok => { s with txAck := true, txOk := ok }
  | i => { s with cmdQueue := s.cmdQueue ++ i.word.toList }

/-- The state moved to the earliest NOW at which its pending WAKE is enabled. -/
def State.atWake (s : State) : State := { s with now := max s.now s.wakeAt }

/-- The state with the turn given to WAKE: the reference schedule takes a due WAKE before a command at equal NOW. -/
def State.wakeFirst (s : State) : State := { s with wakeTurn := true }

/-- The next internal or held step, if one goes before a line at time `t` under the reference schedule: INIT, a held
command, or a WAKE due by `t`. A reset at the present NOW goes before them all (60_exceptions.md R248). -/
def internalBefore (s : State) (next : Option TraceLine) : Option State :=
  let resetNow : Bool := match next with
    | some l => decide (l.input = .reset ∧ l.nowAt s = s.now)
    | none => false
  let limit := match next with
    | some l => l.nowAt s
    | none => s.now
  if resetNow then none
  else
    match s.schState with
    | .idle => some s.wakeFirst
    | .waitTx => none
    | .pending =>
      if s.wakeAt ≤ s.now ∨ s.cmdQueue ≠ [] then some s.wakeFirst
      else if s.wakeAt ≤ limit then some s.atWake.wakeFirst
      else none

/-- A line of a trace's expected output: an internal step or the success indication (30_encoding.md R81), or the later
acceptance of a held command, which R81 does not list and the programs P2 and P5 of 95_test_vectors.md show (DESIGN
CHOICE, log entry 16). -/
inductive OutLine where
  | init (time : Nat)
  | wake (time : Nat) (frame : Frame)
  | led (time : Nat)
  | accepted (time : Nat) (i : Instr)
deriving DecidableEq, Repr

/-- The output line of an output event. -/
def OutEvent.line : OutEvent → OutLine
  | .txRequest frame now => .wake now frame
  | .ledPulse now => .led now

/-- The line of a held command that the step from `s` accepts. A word that spells no command has none. -/
def heldLine (s : State) : List OutLine :=
  match pick s with
  | some (.inr w) =>
    match decode w with
    | .ok i => [.accepted s.now i]
    | .error _ => []
  | _ => []

/-- The output lines of a step from `s` to `t`. -/
def stepLines (s t : State) : List OutLine :=
  (if pick s = some (.inl .init) then [.init s.now] else []) ++ (t.events.drop s.events.length).map OutEvent.line

/-- The mnemonic of an operation, as spec/opcode_table.json writes it. -/
def mnemonicText : Instr → List Char
  | .tempUpdate _ => "TEMP_UPDATE".toList
  | .tempError => "TEMP_ERROR".toList
  | .voltUpdate _ => "VOLT_UPDATE".toList
  | .voltError => "VOLT_ERROR".toList
  | .motion => "MOTION".toList
  | .button => "BUTTON".toList
  | .init => "INIT".toList
  | .wake => "WAKE".toList
  | .txComplete _ => "TX_COMPLETE".toList
  | .reset => "RESET".toList

/-- The `n` low hexadecimal digits of a number. -/
def hexText : (n : Nat) → Nat → List Char
  | 0, _ => []
  | n + 1, v => hexText n (v / 16) ++ [Nat.digitChar (v % 16)].map Char.toUpper

/-- The text of an output line at a time. -/
def outText (time : Nat) (what : List Char) : List Char := "=> @".toList ++ Nat.toDigits 10 time ++ ' ' :: what

/-- The text of an output line (30_encoding.md R81). -/
def OutLine.text : OutLine → List Char
  | .init t => outText t "INIT".toList
  | .wake t frame => outText t ("WAKE frame=0x".toList ++ hexText 10 frame.toNat)
  | .led t => outText t "LED".toList
  | .accepted t i => outText t (mnemonicText i ++ " accepted".toList)

/-- Put output lines before the ones that follow. -/
def withLines (out : List OutLine) (r : List OutLine × Result) : List OutLine × Result := (out ++ r.1, r.2)

/-- Run a trace under the reference schedule of 95_test_vectors.md section 0, in at most `fuel` steps: its output
lines, and how it ends. -/
def runTrace : (fuel : Nat) → List TraceLine → State → List OutLine × Result
  | 0, _, s => ([], .next s)
  | fuel + 1, ls, s =>
    match internalBefore s ls.head? with
    | some s' =>
      match step s' with
      | .next t => withLines (stepLines s' t ++ heldLine s') (runTrace fuel ls t)
      | r => ([], r)
    | none =>
      match ls with
      | [] => ([], .next s)
      | l :: rest =>
        match step (l.place s) with
        | .next t => withLines (stepLines (l.place s) t) (runTrace fuel rest t)
        | r => ([], r)

end Sys2Proof.Machine
end

