-- ==== Sys2Proof/Safety.lean ====
section
/-! DEFINITION. What a safe run is: no error recorded (60_exceptions.md R244), and the invariants of the state. -/

namespace Sys2Proof.Machine

/-- No error is recorded: the premise a claim about a run takes (60_exceptions.md R244). -/
def State.errorFree (s : State) : Prop := s.err = 0#4

/-- A stream of capacity `n`: at most `n` samples (10_state.md R22), each finite (R21). -/
def streamOk (n : Nat) (seq : List Pattern) : Prop := seq.length ≤ n ∧ ∀ p ∈ seq, isFinite p = true

/-- The step from `s` accepts the word `w` on the command port (30_encoding.md R71), at an edge whose turn is not a due
WAKE's (43_report_scheduler.md R186). -/
abbrev State.Accepts (s : State) (w : CmdWord) : Prop :=
  s.cmdQueue.head? = some w ∧ s.schState = .pending ∧ s.rst = false ∧ s.txAck = false ∧
    (s.wakeTurn = false ∨ s.now < s.wakeAt)

/-- The invariant of the registers: the streams as R21 and R22 say, and every time below 2^TICK_W (R26, R28, R37), on
a build the rules describe. -/
structure State.Inv (s : State) : Prop where
  buildOk : s.build.wf = true
  tsOk : streamOk s.build.n s.ts
  vsOk : streamOk s.build.n s.vs
  mcNextFits : s.mcNext < 2 ^ s.build.tickW
  wakeAtFits : s.wakeAt < 2 ^ s.build.tickW
  nowFits : s.now < 2 ^ s.build.tickW

/-- While SCH_STATE = WAIT_TX the frame in TX_FRAME is the one the registers give, since no command can change them
before TX_COMPLETE (44_transmission_controller.md R210, R217), and the cycle's nominal time has been reached (R183). -/
def State.SnapshotInv (s : State) : Prop :=
  s.schState = .waitTx → s.txFrame = reportFrame s ∧ s.wakeAt ≤ s.now

/-- In IDLE every register but ERR is at its reset value: INIT is the first step after reset, and until then only a
spurious ack is taken (43_report_scheduler.md R182, 70_reset_and_hazards.md R272). -/
def State.IdleInv (s : State) : Prop :=
  s.schState = .idle →
    s.ts = [] ∧ s.vs = [] ∧ s.mcCount = 0#16 ∧ s.mcNext = 0 ∧ s.wakeAt = 0 ∧ s.txFrame = 0#40

/-- How many frames the run has requested to send. -/
def State.requests (s : State) : Nat :=
  s.events.countP fun e => match e with | .txRequest _ _ => true | .ledPulse _ => false

/-- How many sends the run has seen succeed. -/
def State.successes (s : State) : Nat :=
  s.events.countP fun e => match e with | .txRequest _ _ => false | .ledPulse _ => true

/-- Each success answers a request of its own, and in WAIT_TX one request is still open (30_encoding.md R78). -/
def State.AnswerInv (s : State) : Prop :=
  s.successes + (if s.schState = .waitTx then 1 else 0) ≤ s.requests

/-- The environment's next edge after a completed operation. -/
def thenNextEdge (r : Result) : Result :=
  match r with
  | .next t => .next t.nextEdge
  | .fault f => .fault f
  | .refused f => .refused f

/-- One operation after another. -/
def thenRun (r : Result) (f : State → Result) : Result :=
  match r with
  | .next t => f t
  | .fault e => .fault e
  | .refused e => .refused e

/-- The same operation `k` times. -/
def repeatRun (f : State → Result) : Nat → State → Result
  | 0, s => .next s
  | k + 1, s => thenRun (repeatRun f k s) f

/-- A MOTION at the earliest time, not before NOW, at which it is not debounced (41_motion_counter.md R130). -/
def motionWhenEligible (s : State) : Result := exec .motion { s with now := max s.now s.mcNext }

/-- A report cycle whose send fails: WAKE when it is due, then TX_COMPLETE with `ok` = 0
(44_transmission_controller.md R213). -/
def failedCycle (s : State) : Result :=
  thenRun (exec .wake { s with now := max s.now s.wakeAt }) (exec (.txComplete false))

/-- The last `n` of a sequence, or all of it where it is shorter. -/
def lastN (n : Nat) (h : List Pattern) : List Pattern := h.drop (h.length - n)

/-- The history of a stream after one step, from its history `h` before: what its update command pushed since the
later of the last reset and the last clear (40_sample_stream.md R111). `update` picks out the stream's update command
and `clear` is its clear command. -/
def historyAfter (update : Instr → Option Pattern) (clear : Instr) (s : State) (h : List Pattern) : List Pattern :=
  match pick s with
  | some (.inl .reset) => []
  | some (.inr w) =>
    match decode w with
    | .ok i =>
      if i = clear then []
      else
        match update i with
        | some p => if isFinite p then h ++ [p] else h
        | none => h
    | .error _ => h
  | _ => h

/-- The sample of a TEMP_UPDATE. -/
def tempSample : Instr → Option Pattern
  | .tempUpdate p => some p
  | _ => none

/-- The sample of a VOLT_UPDATE. -/
def voltSample : Instr → Option Pattern
  | .voltUpdate p => some p
  | _ => none

end Sys2Proof.Machine
end

