-- ==== Sys2Proof/Certificates/Slice0/Obligations.lean ====
section
/-! DEFINITION. The statements for the provers. Each docstring names the rule of spec/ it formalises. Where an equation
gives the whole next state as a record update, every field not named is unchanged: it is the operation's frame too. -/

open Sys2Proof Sys2Proof.Machine

/-! ### Encoding (30_encoding.md) -/

/-- Every operation that has a command word is decoded from it, with every sample pattern (R72, R74, R80). -/
def Obligations.DecodeOfEncodeIsIdentity : Prop :=
  ∀ i : Instr, i.wf = true → ∃ w, encode i = some w ∧ decode w = .ok i

/-- A word that decodes to a command is that command's one word (R72, R74, R77, R80). -/
def Obligations.EncodeOfDecodeIsIdentity : Prop :=
  ∀ (w : CmdWord) (i : Instr), decode w = .ok i → i.wf = true ∧ encode i = some w

/-- R80, with the opcode and the payload read off the word as a number (R72, R74, R75, R76). -/
def Obligations.DecoderFollowsOpcodeMap : Prop :=
  ∀ w : CmdWord,
    let opc := w.toNat / 2 ^ 32
    let p := w.toNat % 2 ^ 32
    (opc = 1 → decode w = .ok (.tempUpdate (BitVec.ofNat 32 p))) ∧
    (opc = 3 → decode w = .ok (.voltUpdate (BitVec.ofNat 32 p))) ∧
    (opc = 2 → p = 0 → decode w = .ok .tempError) ∧
    (opc = 4 → p = 0 → decode w = .ok .voltError) ∧
    (opc = 5 → p = 0 → decode w = .ok .motion) ∧
    (opc = 6 → p = 0 → decode w = .ok .button) ∧
    (opc = 2 ∨ opc = 4 ∨ opc = 5 ∨ opc = 6 → p ≠ 0 → decode w = .error .reservedPayload) ∧
    (opc = 0 ∨ 7 ≤ opc → decode w = .error .illegalOpcode)

/-- The words written out in the examples of R105 to R108, R130 and R184. -/
def Obligations.ExampleWordsDecode : Prop :=
  decode 0x0141AA0000#40 = .ok (.tempUpdate 0x41AA0000#32) ∧
  decode 0x0200000000#40 = .ok .tempError ∧
  decode 0x03406AE148#40 = .ok (.voltUpdate 0x406AE148#32) ∧
  decode 0x0400000000#40 = .ok .voltError ∧
  decode 0x0500000000#40 = .ok .motion ∧
  decode 0x0600000000#40 = .ok .button

/-! ### The step and its ordering (60_exceptions.md R248, 30_encoding.md R71, R79) -/

/-- At an edge that goes to the command port, the step is `exec` of the decoded command, after which the command is
consumed and the next edge begins. `led_pulse` is low unless the command raises it. -/
def Obligations.StepRunsAcceptedCommand : Prop :=
  ∀ (s : State) (w : CmdWord) (q : List CmdWord) (i : Instr),
    s.cmdQueue = w :: q → s.schState = .pending → s.rst = false → s.txAck = false →
    (s.wakeTurn = false ∨ s.now < s.wakeAt) → decode w = .ok i →
    step s = thenNextEdge (thenRun (exec i { s with ledPulse := false }) fun t => .next { t with cmdQueue := q })

/-- The steps without a command word: reset before everything, TX_COMPLETE on an ack in WAIT_TX, INIT in IDLE, and a due
WAKE at its turn. -/
def Obligations.StepRunsPortAndInternalOperations : Prop :=
  ∀ s : State,
    (s.rst = true → step s = thenNextEdge (exec .reset { s with ledPulse := false })) ∧
    (s.rst = false → s.txAck = true → s.schState = .waitTx →
      step s = thenNextEdge (exec (.txComplete s.txOk) { s with ledPulse := false })) ∧
    (s.rst = false → s.txAck = false → s.schState = .idle →
      step s = thenNextEdge (exec .init { s with ledPulse := false })) ∧
    (s.rst = false → s.txAck = false → s.schState = .pending → s.wakeAt ≤ s.now → s.wakeTurn = true →
      step s = thenNextEdge (exec .wake { s with ledPulse := false }))

/-- R248 item 4: a spurious ack is a step of its own, judged on SCH_STATE at the start of the edge, which sets ERR[3]
and nothing else of the block; the edge then goes on with its other inputs. -/
def Obligations.SpuriousAckPrecedesTheOtherStep : Prop :=
  ∀ s : State, s.rst = false → s.txAck = true → s.schState ≠ .waitTx →
    step s = .next
      { s with ledPulse := false, err := s.err ||| 0b1000#4, txAck := false, stepNo := s.stepNo + 1 }

/-- An edge at which the block takes no operation only waits: the registers and the offered commands stay. In WAIT_TX
without an ack, and in PENDING with no command offered and NOW before WAKE_AT, none is enabled (R11, R216, R256). In
PENDING a WAKE that is due may also be put off (R185): that `wakeTurn` says so is the model's choice, log entry 5. The
wait in WAIT_TX ends, as host duty 3 of R255 asks: each waiting edge brings the radio's answer or a reset, or uses up
one of the finitely many scripted edges, the model's form of the duty (log entry 1). -/
def Obligations.IdleEdgeOnlyWaits : Prop :=
  (∀ s : State, s.rst = false → s.txAck = false →
    s.schState = .waitTx ∨ (s.schState = .pending ∧ s.cmdQueue = [] ∧ (s.now < s.wakeAt ∨ s.wakeTurn = false)) →
    step s = .next ({ s with ledPulse := false } : State).nextEdge) ∧
  ∀ s t : State, s.schState = .waitTx → s.rst = false → s.txAck = false → step s = .next t →
    t.schState = .waitTx ∧ (t.txAck = true ∨ t.rst = true ∨ t.script.length < s.script.length)

/-- R75: an accepted word with OPC 0x00 or 0x07 to 0xFF sets ERR[0], is dropped, and changes no other register. -/
def Obligations.IllegalOpcodeSetsErr0 : Prop :=
  ∀ (s : State) (w : CmdWord) (q : List CmdWord),
    s.cmdQueue = w :: q → s.schState = .pending → s.rst = false → s.txAck = false →
    (s.wakeTurn = false ∨ s.now < s.wakeAt) → w.toNat / 2 ^ 32 = 0 ∨ 7 ≤ w.toNat / 2 ^ 32 →
    step s = .next ({ s with ledPulse := false, err := s.err ||| 0b0001#4, cmdQueue := q } : State).nextEdge

/-- R76: one of the four commands without a sample, accepted with a payload, sets ERR[1], is dropped, and has no
effect. -/
def Obligations.ReservedPayloadSetsErr1 : Prop :=
  ∀ (s : State) (w : CmdWord) (q : List CmdWord),
    s.cmdQueue = w :: q → s.schState = .pending → s.rst = false → s.txAck = false →
    (s.wakeTurn = false ∨ s.now < s.wakeAt) →
    (w.toNat / 2 ^ 32 = 2 ∨ w.toNat / 2 ^ 32 = 4 ∨ w.toNat / 2 ^ 32 = 5 ∨ w.toNat / 2 ^ 32 = 6) →
    w.toNat % 2 ^ 32 ≠ 0 →
    step s = .next ({ s with ledPulse := false, err := s.err ||| 0b0010#4, cmdQueue := q } : State).nextEdge

/-- R186: with a due WAKE and an offered command, either may go first. The model's choices, log entry 5: the field
`wakeTurn` of the state decides the order, and if WAKE goes first the command stays offered, although R71 has `cmd_ready`
high at that edge. If the command goes first it is accepted. Each is taken after finitely many steps, R186 and R185, in
the model's form (log entry 17): every step but a spurious ack uses up one of the finitely many scripted edges, and past
the script an offered command is accepted at once or after one report cycle, and an enabled WAKE is taken at this edge
or at the next (BUTTON planning at NOW itself, BUTTON_OFFSET_MS = 0, as R185 has it). -/
def Obligations.DueWakeAndCommandGoEitherWay : Prop :=
  (∀ (s : State) (w : CmdWord) (q : List CmdWord),
    s.cmdQueue = w :: q → s.schState = .pending → s.rst = false → s.txAck = false → s.wakeAt ≤ s.now →
    (∃ t, step { s with wakeTurn := true } = .next t ∧ t.schState = .waitTx ∧ [w] <+: t.cmdQueue) ∧
    step { s with wakeTurn := false } =
      thenNextEdge (thenRun (acceptWord w { s with ledPulse := false, wakeTurn := false })
        fun t => .next { t with cmdQueue := q })) ∧
  (∀ s t : State, step s = .next t → s.script ≠ [] →
    t.script.length < s.script.length ∨ (s.txAck = true ∧ t.txAck = false ∧ t.script = s.script)) ∧
  ∀ s : State, s.schState = .pending → s.rst = false → s.txAck = false → s.script = [] →
    (∀ w, s.cmdQueue.head? = some w →
      s.Accepts w ∨
      ∃ t, step s = .next t ∧ t.schState = .waitTx ∧ t.txAck = true ∧ t.wakeAt = s.wakeAt ∧ t.build = s.build ∧
        ((∃ u, step t = .next u ∧ u.Accepts w) ∨
          2 ^ s.build.tickW ≤ s.wakeAt + (if t.txOk then s.build.successMs else s.build.retryMs))) ∧
    (s.wakeDue = true → s.build.buttonOffsetMs = 0 →
      (∃ t, step s = .next t ∧ t.schState = .waitTx) ∨
      ∀ t, step s = .next t →
        t.wakeDue = true ∧ t.script = [] ∧ ∃ u, step t = .next u ∧ u.schState = .waitTx)

/-- R71, R79, R270: an operation that is not enabled is held, and nothing changes. -/
def Obligations.OperationsNotEnabledAreHeld : Prop :=
  ∀ s : State,
    (∀ i : Instr, i.wf = true → s.schState ≠ .pending ∨ s.rst = true → exec i s = .next s) ∧
    (s.schState ≠ .idle ∨ s.rst = true → exec .init s = .next s) ∧
    (s.schState ≠ .pending ∨ s.now < s.wakeAt ∨ s.rst = true → exec .wake s = .next s) ∧
    (s.rst = true → ∀ ok, exec (.txComplete ok) s = .next s)

/-! ### Sample streams (40_sample_stream.md) -/

/-- R105, for every pattern and every state; the written field is the only one that changes. -/
def Obligations.TempUpdateFeedsTemperatureStream : Prop :=
  ∀ (p : Pattern) (s : State),
    encode (.tempUpdate p) = some (0x01#8 ++ p) ∧
    exec (.tempUpdate p) s = .next
      (if s.schState = .pending ∧ s.rst = false then
        (if p.extractLsb' 23 8 = 0xFF#8 then { s with err := s.err ||| 0b0100#4 }
         else { s with ts := (if s.ts.length = s.build.n then s.ts.tail else s.ts) ++ [p] })
       else s)

/-- R107, as R105 with VS for TS. -/
def Obligations.VoltUpdateFeedsVoltageStream : Prop :=
  ∀ (p : Pattern) (s : State),
    encode (.voltUpdate p) = some (0x03#8 ++ p) ∧
    exec (.voltUpdate p) s = .next
      (if s.schState = .pending ∧ s.rst = false then
        (if p.extractLsb' 23 8 = 0xFF#8 then { s with err := s.err ||| 0b0100#4 }
         else { s with vs := (if s.vs.length = s.build.n then s.vs.tail else s.vs) ++ [p] })
       else s)

/-- R106: TEMP_ERROR clears TS; its word with a payload raises RESERVED_PAYLOAD instead; an empty TS is encoded as the
build's TEMP_SENTINEL, which is 0x7FFF (R6). -/
def Obligations.TempErrorClearsTemperatureStream : Prop :=
  encode .tempError = some 0x0200000000#40 ∧
  (∀ b : Build, tempCode b (avg b.arith []) = b.tempSentinel) ∧ Build.standard.tempSentinel = 0x7FFF#16 ∧
  ∀ s : State,
    exec .tempError s = .next (if s.schState = .pending ∧ s.rst = false then { s with ts := [] } else s) ∧
    ∀ p : BitVec 32, p ≠ 0#32 → acceptWord (0x02#8 ++ p) s = .next { s with err := s.err ||| 0b0010#4 }

/-- R108: VOLT_ERROR clears VS; its word with a payload raises RESERVED_PAYLOAD instead; an empty VS is encoded as the
build's VOLT_SENTINEL, which is 0xFF (R6). -/
def Obligations.VoltErrorClearsVoltageStream : Prop :=
  encode .voltError = some 0x0400000000#40 ∧
  (∀ b : Build, voltCode b (avg b.arith []) = b.voltSentinel) ∧ Build.standard.voltSentinel = 0xFF#8 ∧
  ∀ s : State,
    exec .voltError s = .next (if s.schState = .pending ∧ s.rst = false then { s with vs := [] } else s) ∧
    ∀ p : BitVec 32, p ≠ 0#32 → acceptWord (0x04#8 ++ p) s = .next { s with err := s.err ||| 0b0010#4 }

/-- R111 for both streams, as an invariant with the history of pushes beside it: if a stream is the last min(k, N) of
the k patterns pushed since the later of the last reset and its last clear, it is so after the next step. -/
def Obligations.WindowsFollowTheirHistories : Prop :=
  ∀ (s s' : State) (h : List Pattern), 1 ≤ s.build.n → step s = .next s' →
    (s.ts = lastN s.build.n h → s'.ts = lastN s'.build.n (historyAfter tempSample .tempError s h)) ∧
    (s.vs = lastN s.build.n h → s'.vs = lastN s'.build.n (historyAfter voltSample .voltError s h))

/-- R102: under CR32 and EXACT the average does not depend on the order of the samples, and an empty stream has none
under any ARITH. -/
def Obligations.AverageIgnoresOrder : Prop :=
  (∀ a, avg a [] = none) ∧
  ∀ x y : List Pattern, x.Perm y → avg .cr32 x = avg .cr32 y ∧ avg .exact x = avg .exact y

/-- R102: under CR32 the average of finite samples is finite and lies between their least and their greatest. -/
def Obligations.AverageLiesBetweenTheSamples : Prop :=
  ∀ (seq : List Pattern) (lo hi : Pattern), seq ≠ [] → (∀ p ∈ seq, isFinite p = true) → lo ∈ seq → hi ∈ seq →
    (∀ p ∈ seq, val32 lo ≤ val32 p ∧ val32 p ≤ val32 hi) →
    ∃ r : Rat, avg .cr32 seq = some (.fin r) ∧ val32 lo ≤ r ∧ r ≤ val32 hi

/-- R110: an accumulator of 128 + 149 + k + 1 bits, signed, holds the sum of up to 2^k finite samples exactly, in units
of 2^-149. -/
def Obligations.ExactSumFitsTheAccumulator : Prop :=
  ∀ (k : Nat) (seq : List Pattern), seq.length ≤ 2 ^ k → (∀ p ∈ seq, isFinite p = true) →
    ∃ z : Int, exactSum seq = (z : Rat) * 2 ^ (-149 : Int) ∧ -(2 ^ (277 + k)) ≤ z ∧ z < 2 ^ (277 + k)

/-! ### Numbers (00_scope.md R12 to R14) -/

/-- R12, with the fields read off the pattern as a number. -/
def Obligations.PatternValueIsBinary32 : Prop :=
  ∀ p : Pattern,
    let e : Nat := p.toNat / 2 ^ 23 % 2 ^ 8
    let f : Nat := p.toNat % 2 ^ 23
    let sign : Rat := if 2 ^ 31 ≤ p.toNat then -1 else 1
    (isFinite p = true ↔ e ≠ 255) ∧
    (e = 0 → val32 p = sign * (f : Rat) * 2 ^ (-149 : Int)) ∧
    (0 < e → e < 255 → val32 p = sign * ((2 ^ 23 + f : Nat) : Rat) * 2 ^ ((e : Int) - 150))

/-- R13: a value that is binary32 already is not changed by rounding. -/
def Obligations.RoundingKeepsBinary32Values : Prop :=
  ∀ p : Pattern, isFinite p = true → rne32 (val32 p) = .fin (val32 p)

/-- R13: a finite result is a binary32 value, and no finite binary32 value lies nearer. -/
def Obligations.RoundingGivesTheNearestBinary32Value : Prop :=
  ∀ q r : Rat, rne32 q = .fin r →
    (∃ p, isFinite p = true ∧ val32 p = r) ∧ ∀ p, isFinite p = true → |r - q| ≤ |val32 p - q|

/-- R153, R14: the three modes that round to nearest are at most 1/2 away and agree off the exact halves; at an exact
half each gives the neighbour R14 names; TRUNC agrees with them where the fraction of |x| is below 1/2 and differs where
it is above. At exactly 1/2, where R153's sentence and its own table disagree, TRUNC is as R14 and the table have it
(log entry 20). -/
def Obligations.RoundingModesDifferOnlyAtHalves : Prop :=
  ∀ x : Rat,
    (∀ r, r ≠ .trunc → |(roundT r x : Rat) - x| ≤ 1 / 2) ∧
    ((∀ z : Int, x ≠ z + 1 / 2) →
      roundT .halfEven x = roundT .halfAway x ∧ roundT .halfAway x = roundT .halfUp x) ∧
    (∀ z : Int, x = z + 1 / 2 →
      roundT .halfEven x % 2 = 0 ∧ roundT .halfUp x = z + 1 ∧
      roundT .halfAway x = (if 0 ≤ z then z + 1 else z) ∧ roundT .trunc x = (if 0 ≤ z then z else z + 1)) ∧
    (Int.fract |x| < 1 / 2 → roundT .trunc x = roundT .halfEven x) ∧
    (1 / 2 < Int.fract |x| → roundT .trunc x ≠ roundT .halfEven x)

/-- R82: the decimal value of a finite pattern denotes that pattern. The pattern of -0 is left out: its value 0 denotes
the pattern 0x00000000, the model's choice of log entry 14. -/
def Obligations.DecimalLiteralDenotesItsPattern : Prop :=
  ∀ p : Pattern, isFinite p = true → p ≠ 0x80000000#32 → pattern32 (rne32 (val32 p)) = p

/-! ### Motion counter (41_motion_counter.md) -/

/-- R130 (the build with the debounce gate): an accepted trigger before MC_NEXT changes nothing, any other counts,
saturating at 65535 (the greatest count of COUNT_W = 16 bits), and sets MC_NEXT; a word with a payload is
RESERVED_PAYLOAD; a trigger not accepted is held. -/
def Obligations.MotionCountsUnlessDebounced : Prop :=
  encode .motion = some 0x0500000000#40 ∧
  (∀ b : Build, b.countW = 16 → countMax b = 65535) ∧
  (∀ s : State, ¬(s.schState = .pending ∧ s.rst = false) → exec .motion s = .next s) ∧
  ∀ s : State, s.schState = .pending → s.rst = false → s.build.debounceEn = true →
    (s.now < s.mcNext → exec .motion s = .next s) ∧
    (s.mcNext ≤ s.now → s.now + s.build.debounceMs < 2 ^ s.build.tickW →
      exec .motion s = .next
        { s with
          mcCount := BitVec.ofNat 16 (min (s.mcCount.toNat + 1) (countMax s.build)),
          mcNext := s.now + s.build.debounceMs }) ∧
    (s.mcNext ≤ s.now → 2 ^ s.build.tickW ≤ s.now + s.build.debounceMs →
      exec .motion s = .refused .timeOverflow) ∧
    ∀ p : BitVec 32, p ≠ 0#32 → acceptWord (0x05#8 ++ p) s = .next { s with err := s.err ||| 0b0010#4 }

/-- R134: without the debounce gate every accepted trigger counts, saturating at 65535 (the greatest count of COUNT_W = 16
bits), and MC_NEXT is not written. -/
def Obligations.MotionWithoutDebounceAlwaysCounts : Prop :=
  (∀ b : Build, b.countW = 16 → countMax b = 65535) ∧
  ∀ s : State, s.schState = .pending → s.rst = false → s.build.debounceEn = false →
    exec .motion s = .next { s with mcCount := BitVec.ofNat 16 (min (s.mcCount.toNat + 1) (countMax s.build)) } ∧
    ∀ p : BitVec 32, p ≠ 0#32 → acceptWord (0x05#8 ++ p) s = .next { s with err := s.err ||| 0b0010#4 }

/-- R131: two triggers DEBOUNCE_MS or more apart both count, two that are closer count once (in a build whose count can
hold 2, as COUNT_W = 16 can). -/
def Obligations.TwoTriggersCountByTheirSpacing : Prop :=
  ∀ (s : State) (t t' : Nat),
    s.schState = .pending → s.rst = false → s.build.debounceEn = true → s.mcCount = 0#16 →
    s.mcNext ≤ t → t ≤ t' → t' + s.build.debounceMs < 2 ^ s.build.tickW →
    ∃ s₁ s₂, exec .motion { s with now := t } = .next s₁ ∧ exec .motion { s₁ with now := t' } = .next s₂ ∧
      s₂.mcCount.toNat = min (if t + s.build.debounceMs ≤ t' then 2 else 1) (countMax s.build)

/-- R132: after k counted triggers since the clear MC_COUNT is min(k, 65535), for COUNT_W = 16, and in general the lesser
of k and the greatest count: it saturates and never wraps. -/
def Obligations.MotionCountSaturates : Prop :=
  ∀ (k : Nat) (s : State),
    s.schState = .pending → s.rst = false → s.mcCount = 0#16 →
    max s.now s.mcNext + k * s.build.debounceMs < 2 ^ s.build.tickW →
    ∃ t, repeatRun motionWhenEligible k s = .next t ∧ t.mcCount.toNat = min k (countMax s.build) ∧
      (s.build.countW = 16 → t.mcCount.toNat = min k 65535)

/-! ### Frame encoder (42_frame_encoder.md) -/

/-- R152: the voltage code is the sentinel, 0xFF, without an average, and else the ceiling of the scaled value, saturated to
0..255. -/
def Obligations.VoltageCodeIsSaturatedCeiling : Prop :=
  ∀ b : Build,
    voltCode b none = b.voltSentinel ∧ (b.voltSentinel = 0xFF#8 → voltCode b none = 0xFF#8) ∧
    ∀ v : Value32,
      (scaleTen b.arith v = .posInf → (voltCode b (some v)).toNat = 255) ∧
      (scaleTen b.arith v = .negInf → (voltCode b (some v)).toNat = 0) ∧
      ∀ x : Rat, scaleTen b.arith v = .fin x →
        ((voltCode b (some v)).toNat : Int) = min (max ⌈x⌉ 0) 255

/-- R154: the temperature code is the sentinel, 0x7FFF, without an average, and else the rounded scaled value, saturated to
-32768..32767, in two's complement. -/
def Obligations.TemperatureCodeIsSaturatedRounding : Prop :=
  ∀ b : Build,
    tempCode b none = b.tempSentinel ∧ (b.tempSentinel = 0x7FFF#16 → tempCode b none = 0x7FFF#16) ∧
    ∀ v : Value32,
      (scaleTen b.arith v = .posInf → (tempCode b (some v)).toInt = 32767) ∧
      (scaleTen b.arith v = .negInf → (tempCode b (some v)).toInt = -32768) ∧
      ∀ x : Rat, scaleTen b.arith v = .fin x →
        (tempCode b (some v)).toInt = min (max (roundT b.tempRound x) (-32768)) 32767

/-- R156, R155, R54: the three fields stand at bits 39..32, 31..16 and 15..0 of the frame, and its five bytes, in the
order sent, are the voltage code, the temperature code and the count, most significant byte first. -/
def Obligations.FrameHoldsItsThreeFields : Prop :=
  ∀ (b : Build) (va ta : Option Value32) (c : BitVec 16),
    (encodeFrame b va ta c).toNat =
      (voltCode b va).toNat * 2 ^ 32 + (tempCode b ta).toNat * 2 ^ 16 + c.toNat ∧
    (b.frameBytes = 5 → (sentBytes b (encodeFrame b va ta c)).map BitVec.toNat =
      [(voltCode b va).toNat, (tempCode b ta).toNat / 2 ^ 8, (tempCode b ta).toNat % 2 ^ 8,
        c.toNat / 2 ^ 8, c.toNat % 2 ^ 8])

/-- R157: the codes that equal the sentinels 0xFF and 0x7FFF, in general and by the CR32 thresholds the rule gives. -/
def Obligations.SentinelsAreNotUnique : Prop :=
  (∀ b : Build, (b.voltSentinel = 0xFF#8 → voltCode b none = 0xFF#8) ∧
    (b.tempSentinel = 0x7FFF#16 → tempCode b none = 0x7FFF#16)) ∧
  (∀ (b : Build) (v : Value32) (x : Rat), scaleTen b.arith v = .fin x →
    (voltCode b (some v) = 0xFF#8 ↔ 254 < x) ∧
    (tempCode b (some v) = 0x7FFF#16 ↔ 32767 ≤ roundT b.tempRound x)) ∧
  ∀ b : Build, b.arith = .cr32 → ∀ p : Pattern, isFinite p = true →
    voltCode b (some (.fin (val32 0x41CB3333#32))) = 254#8 ∧
    (voltCode b (some (.fin (val32 p))) = 0xFF#8 ↔ val32 0x41CB3334#32 ≤ val32 p) ∧
    (b.tempRound = .halfEven →
      tempCode b (some (.fin (val32 0x454CCA66#32))) = 32766#16 ∧
      (tempCode b (some (.fin (val32 p))) = 0x7FFF#16 ↔ val32 0x454CCA67#32 ≤ val32 p))

/-! ### Scheduler and controller (43_report_scheduler.md, 44_transmission_controller.md) -/

/-- R182: INIT plans the first report FIRST_DELAY_MS after the NOW of its step; it is enabled in IDLE with `rst` low. It
happens once per reset, since it leaves IDLE and only reset returns there, and no command is accepted before it, since
`cmd_ready` is low in IDLE and a command is held. -/
def Obligations.InitPlansTheFirstReport : Prop :=
  (∀ (s : State) (i : Instr), s.schState = .idle → i.wf = true → s.cmdReady = false ∧ exec i s = .next s) ∧
  (∀ s s' : State, step s = .next s' → s'.schState = .idle → s.rst = true ∨ s.schState = .idle) ∧
  (∀ s : State, ¬(s.schState = .idle ∧ s.rst = false) → exec .init s = .next s) ∧
  ∀ s : State, s.schState = .idle → s.rst = false →
    (s.now + s.build.firstDelayMs < 2 ^ s.build.tickW →
      exec .init s = .next { s with wakeAt := s.now + s.build.firstDelayMs, schState := .pending }) ∧
    (2 ^ s.build.tickW ≤ s.now + s.build.firstDelayMs → exec .init s = .refused .timeOverflow)

/-- R184: BUTTON overwrites the pending wake by NOW + BUTTON_OFFSET_MS, whatever it was; with the offset 0 the WAKE is
then enabled at once. -/
def Obligations.ButtonPlansAnImmediateWake : Prop :=
  encode .button = some 0x0600000000#40 ∧
  (∀ s : State, ¬(s.schState = .pending ∧ s.rst = false) → exec .button s = .next s) ∧
  ∀ s : State, s.schState = .pending → s.rst = false →
    (s.now + s.build.buttonOffsetMs < 2 ^ s.build.tickW →
      exec .button s = .next { s with wakeAt := s.now + s.build.buttonOffsetMs }) ∧
    (s.build.buttonOffsetMs = 0 → s.now < 2 ^ s.build.tickW →
      ∃ t, exec .button s = .next t ∧ t.wakeDue = true) ∧
    ∀ p : BitVec 32, p ≠ 0#32 → acceptWord (0x06#8 ++ p) s = .next { s with err := s.err ||| 0b0010#4 }

/-- R183, R210: a due WAKE builds the frame from the two averages and the count, enters WAIT_TX and requests the send;
WAKE_AT, the streams and the count are only read. Otherwise it is not enabled. -/
def Obligations.WakeEncodesAndRequestsTheSend : Prop :=
  (∀ s : State, ¬(s.schState = .pending ∧ s.wakeAt ≤ s.now ∧ s.rst = false) → exec .wake s = .next s) ∧
  ∀ s : State, s.schState = .pending → s.rst = false → s.wakeAt ≤ s.now →
    let frame := encodeFrame s.build (avg s.build.arith s.vs) (avg s.build.arith s.ts) s.mcCount
    exec .wake s = .next
      { s with txFrame := frame, schState := .waitTx, events := s.events ++ [.txRequest frame s.now] }

/-- R212, R133, R181: a successful send clears the count, pulses the LED and replans SUCCESS_MS after the nominal wake;
MC_NEXT and the streams are unchanged. -/
def Obligations.SuccessfulSendClearsCountAndReplans : Prop :=
  ∀ s : State, s.schState = .waitTx → s.rst = false → s.wakeAt + s.build.successMs < 2 ^ s.build.tickW →
    exec (.txComplete true) s = .next
      { s with
        mcCount := 0#16, ledPulse := true, events := s.events ++ [.ledPulse s.now],
        wakeAt := s.wakeAt + s.build.successMs, schState := .pending }

/-- R213, R181: a failed send replans RETRY_MS after the nominal wake and leaves the count and the streams alone. -/
def Obligations.FailedSendKeepsDataAndReplans : Prop :=
  ∀ s : State, s.schState = .waitTx → s.rst = false → s.wakeAt + s.build.retryMs < 2 ^ s.build.tickW →
    exec (.txComplete false) s = .next
      { s with wakeAt := s.wakeAt + s.build.retryMs, schState := .pending }

/-- R215: k failed cycles in a row advance WAKE_AT by k times RETRY_MS, for every k, and keep the count, the timestamp
and the streams. -/
def Obligations.RetriesHaveNoLimitAndNoBackoff : Prop :=
  ∀ (k : Nat) (s : State), s.schState = .pending → s.rst = false →
    s.wakeAt + k * s.build.retryMs < 2 ^ s.build.tickW →
    ∃ t, repeatRun failedCycle k s = .next t ∧ t.schState = .pending ∧
      t.wakeAt = s.wakeAt + k * s.build.retryMs ∧ t.mcCount = s.mcCount ∧ t.mcNext = s.mcNext ∧
      t.ts = s.ts ∧ t.vs = s.vs

/-- R187: where a computed time does not fit TICK_W bits the step is refused, by MOTION, BUTTON, INIT and both branches
of TX_COMPLETE. -/
def Obligations.TimesBeyondTickWidthAreRefused : Prop :=
  ∀ s : State, s.rst = false →
    (s.schState = .pending → s.build.debounceEn = true → s.mcNext ≤ s.now →
      2 ^ s.build.tickW ≤ s.now + s.build.debounceMs → exec .motion s = .refused .timeOverflow) ∧
    (s.schState = .pending → 2 ^ s.build.tickW ≤ s.now + s.build.buttonOffsetMs →
      exec .button s = .refused .timeOverflow) ∧
    (s.schState = .idle → 2 ^ s.build.tickW ≤ s.now + s.build.firstDelayMs →
      exec .init s = .refused .timeOverflow) ∧
    (s.schState = .waitTx → 2 ^ s.build.tickW ≤ s.wakeAt + s.build.successMs →
      exec (.txComplete true) s = .refused .timeOverflow) ∧
    (s.schState = .waitTx → 2 ^ s.build.tickW ≤ s.wakeAt + s.build.retryMs →
      exec (.txComplete false) s = .refused .timeOverflow)

/-- R16, R187: no step is refused for another reason than a time that does not fit TICK_W bits. -/
def Obligations.OnlyTimeOverflowIsRefused : Prop :=
  ∀ (s : State) (r : Refusal), step s = .refused r →
    r = .timeOverflow ∧
    (2 ^ s.build.tickW ≤ s.now + max s.build.debounceMs (max s.build.buttonOffsetMs s.build.firstDelayMs) ∨
      2 ^ s.build.tickW ≤ s.wakeAt + max s.build.successMs s.build.retryMs)

/-- R189: the transitions of SCH_STATE and WAKE_AT are exactly these: an accepted BUTTON always plans, a due WAKE at its
turn is always taken, and every step but the six of the table leaves both as they are. That an edge's turn is the field
`wakeTurn`, and a step for each edge, are the model's choice (log entries 5 and 7). -/
def Obligations.SchedulerTransitionsAreExactlyThese : Prop :=
  ∀ s s' : State, step s = .next s' →
    (s.rst = true ∧ s'.schState = .idle ∧ s'.wakeAt = 0) ∨
    (s.rst = false ∧ s.txAck = false ∧ s.schState = .idle ∧ s'.schState = .pending ∧
      s'.wakeAt = s.now + s.build.firstDelayMs) ∨
    ((∃ w, s.Accepts w ∧ decode w = .ok .button) ∧ s'.schState = .pending ∧
      s'.wakeAt = s.now + s.build.buttonOffsetMs) ∨
    (s.rst = false ∧ s.txAck = false ∧ s.schState = .pending ∧ s.wakeAt ≤ s.now ∧ s.wakeTurn = true ∧
      s'.schState = .waitTx ∧ s'.wakeAt = s.wakeAt) ∨
    (s.rst = false ∧ s.txAck = true ∧ s.schState = .waitTx ∧ s'.schState = .pending ∧
      s'.wakeAt = s.wakeAt + (if s.txOk then s.build.successMs else s.build.retryMs)) ∨
    (s.rst = false ∧ (s.schState = .idle → s.txAck = true) ∧ (s.schState = .waitTx → s.txAck = false) ∧
      (∀ w, s.Accepts w → decode w ≠ .ok .button) ∧
      ¬(s.txAck = false ∧ s.schState = .pending ∧ s.wakeAt ≤ s.now ∧ s.wakeTurn = true) ∧
      s'.schState = s.schState ∧ s'.wakeAt = s.wakeAt)

/-- R185: once WAKE is enabled it stays enabled until it is taken or the block is reset. (BUTTON plans at NOW itself,
BUTTON_OFFSET_MS = 0, as the rule has it.) -/
def Obligations.EnabledWakeStaysEnabled : Prop :=
  ∀ s s' : State, s.build.buttonOffsetMs = 0 → s.rst = false → s.wakeDue = true → step s = .next s' →
    s'.wakeDue = true ∨ s'.schState = .waitTx

/-! ### Errors, reset and the ports -/

/-- R270: an edge with `rst` high is the reset step, whatever else is enabled; it returns every register to its reset
value, and the outputs follow. That the inputs, the script and the record of outputs stay is the model's choice (log
entries 3 and 11). -/
def Obligations.ResetRestoresEveryRegister : Prop :=
  (∀ s : State, s.rst = true → step s = thenNextEdge (exec .reset { s with ledPulse := false })) ∧
  ∀ s : State, ∃ t, exec .reset s = .next t ∧
    t = { s with
      ts := [], vs := [], mcCount := 0#16, mcNext := 0, schState := .idle, wakeAt := 0,
      txFrame := 0#40, err := 0b0000#4, ledPulse := false } ∧
    t.txReq = false ∧ t.errOut = false ∧ t.cmdReady = false ∧ (s.build.fitsStatus = true → t.status = 0x00000000#32)

/-- R30, R246: an ERR bit that is set stays set through every step but reset. -/
def Obligations.ErrBitsAreSticky : Prop :=
  ∀ (s s' : State) (k : Nat), step s = .next s' → s.rst = false → s.err.getLsbD k = true →
    s'.err.getLsbD k = true

/-- R242: an error's step changes nothing of the block but ERR: if a step without reset changes ERR, every other
register is as before. -/
def Obligations.AnErrorChangesOnlyErr : Prop :=
  ∀ s s' : State, step s = .next s' → s.rst = false → s'.err ≠ s.err →
    s'.ts = s.ts ∧ s'.vs = s.vs ∧ s'.mcCount = s.mcCount ∧ s'.mcNext = s.mcNext ∧ s'.schState = s.schState ∧
    s'.wakeAt = s.wakeAt ∧ s'.txFrame = s.txFrame ∧ s'.events = s.events

/-- R34 and R27: the STATUS view bit by bit, on a build and in a state whose stream lengths fit their fields, and its
value at reset. -/
def Obligations.StatusShowsTheRegisters : Prop :=
  State.reset.status = 0x00000000#32 ∧
  ∀ s : State, s.build.fitsStatus = true → s.ts.length ≤ s.build.n → s.vs.length ≤ s.build.n →
    s.status.toNat =
      s.mcCount.toNat * 2 ^ 16 + s.vs.length * 2 ^ 12 + s.ts.length * 2 ^ 8 + s.err.toNat * 2 ^ 4 +
        (match s.schState with | .idle => 0 | .pending => 1 | .waitTx => 2)

/-- R35: the observation buses show the wake time, the timestamp and the held samples. -/
def Obligations.ObservationPortShowsTheState : Prop :=
  ∀ s : State, s.Inv →
    s.obsWakeAt.toNat = s.wakeAt ∧ s.obsMcNext.toNat = s.mcNext ∧
    ∀ k, (s.obsTsValid k = true ↔ k < s.ts.length) ∧ (s.obsVsValid k = true ↔ k < s.vs.length) ∧
      (∀ h : k < s.ts.length, s.obsTs k = s.ts[k]) ∧ (∀ h : k < s.vs.length, s.obsVs k = s.vs[k])

/-- R39, R280: `led_pulse` is high after a step exactly when the step was a successful TX_COMPLETE. -/
def Obligations.LedPulseMarksExactlyTheSuccesses : Prop :=
  ∀ s s' : State, step s = .next s' →
    (s'.ledPulse = true ↔ s.rst = false ∧ s.schState = .waitTx ∧ s.txAck = true ∧ s.txOk = true)

/-- R39: the output trace grows by TxRequest at a WAKE step, by LedPulse at a successful TX_COMPLETE step, each with the
NOW of the step, and at no other step. -/
def Obligations.OutputTraceRecordsTheEvents : Prop :=
  ∀ s s' : State, step s = .next s' →
    s'.events = s.events ++
      (if s.rst = false ∧ s.txAck = false ∧ s.schState = .pending ∧ s.wakeAt ≤ s.now ∧ s.wakeTurn = true then
        [.txRequest s'.txFrame s.now]
       else if s.rst = false ∧ s.txAck = true ∧ s.schState = .waitTx ∧ s.txOk = true then [.ledPulse s.now]
       else [])

/-- R109, R214: without reset a stream changes only at a step that accepts a command of its own. -/
def Obligations.StreamsChangeOnlyByTheirCommands : Prop :=
  ∀ s s' : State, step s = .next s' → s.rst = false →
    (s'.ts ≠ s.ts → ∃ w i, s.Accepts w ∧ decode w = .ok i ∧ (i = .tempError ∨ ∃ p, i = .tempUpdate p)) ∧
    (s'.vs ≠ s.vs → ∃ w i, s.Accepts w ∧ decode w = .ok i ∧ (i = .voltError ∨ ∃ p, i = .voltUpdate p))

/-- R25, R26, R29, R36: without reset MC_NEXT changes only at a step that accepts a MOTION, MC_COUNT only there and at a
successful TX_COMPLETE, TX_FRAME only at a due WAKE; the build never changes. -/
def Obligations.RegistersHaveOnlyTheirWriters : Prop :=
  ∀ s s' : State, step s = .next s' →
    s'.build = s.build ∧
    (s.rst = false →
      (s'.mcNext ≠ s.mcNext → ∃ w, s.Accepts w ∧ decode w = .ok .motion) ∧
      (s'.mcCount ≠ s.mcCount →
        (∃ w, s.Accepts w ∧ decode w = .ok .motion) ∨
        (s.schState = .waitTx ∧ s.txAck = true ∧ s.txOk = true)) ∧
      (s'.txFrame ≠ s.txFrame → s.schState = .pending ∧ s.wakeAt ≤ s.now ∧ s'.schState = .waitTx))

/-- The frame of every operation on the ports and the model's own fields: none changes an input, the inputs to come or
the build. -/
def Obligations.OperationsLeaveThePortsAlone : Prop :=
  ∀ (i : Instr) (s t : State), exec i s = .next t →
    t.build = s.build ∧ t.rst = s.rst ∧ t.now = s.now ∧ t.cmdQueue = s.cmdQueue ∧ t.txAck = s.txAck ∧
    t.txOk = s.txOk ∧ t.wakeTurn = s.wakeTurn ∧ t.script = s.script ∧ t.stepNo = s.stepNo

/-- R37, R71, R255 items 1 and 2: time never decreases, and an offered command stays offered, unchanged and in order,
until a step in PENDING with `rst` low accepts it. The model's environment keeps both by its form (log entry 1). -/
def Obligations.TimeAndOfferedCommandsArePreserved : Prop :=
  ∀ s s' : State, step s = .next s' →
    s.now ≤ s'.now ∧
    (s.cmdQueue <+: s'.cmdQueue ∨
      (s.schState = .pending ∧ s.rst = false ∧ s.cmdQueue ≠ [] ∧ s.cmdQueue.tail <+: s'.cmdQueue))

/-- R78: `tx_ok` is ignored when `tx_ack` is low. -/
def Obligations.TxOkIsIgnoredWithoutAck : Prop :=
  ∀ (s : State) (b : Bool), s.txAck = false → step { s with txOk := b } = step s

/-! ### Invariants -/

/-- R21, R22, R26, R28, R37: streams of at most N finite samples and times within TICK_W bits, from every such state. -/
def Obligations.EveryStepKeepsTheInvariant : Prop :=
  ∀ s s' : State, s.Inv → step s = .next s' → s'.Inv

/-- R210, R216, R217: from WAKE to TX_COMPLETE the frame on `tx_frame` is the one the registers give, so the count a
success clears is the count in the frame. -/
def Obligations.EveryStepKeepsTheSnapshot : Prop :=
  ∀ s s' : State, s.SnapshotInv → step s = .next s' → s'.SnapshotInv

/-- R182, R272: in IDLE every register but ERR stays at its reset value. -/
def Obligations.EveryStepKeepsIdleAtReset : Prop :=
  ∀ s s' : State, s.IdleInv → step s = .next s' → s'.IdleInv

/-- R78: successes never outnumber requests, and in WAIT_TX one request is open. -/
def Obligations.EveryStepKeepsAnswersBehindRequests : Prop :=
  ∀ s s' : State, s.AnswerInv → step s = .next s' → s'.AnswerInv

/-- R270: the registers reset give the four invariants, in every build the rules describe and at every NOW within TICK_W
bits (the fourth is about the record of outputs, which reset keeps, so it is kept). State.reset, the standard build at
NOW = 0 (the model's choice, log entries 2 and 3), is one such state. -/
def Obligations.ResetMeetsTheInvariants : Prop :=
  (∀ s : State, s.build.wf = true → s.now < 2 ^ s.build.tickW →
    s.resetRegisters.Inv ∧ s.resetRegisters.SnapshotInv ∧ s.resetRegisters.IdleInv ∧
    (s.AnswerInv → s.resetRegisters.AnswerInv)) ∧
  State.reset.Inv ∧ State.reset.SnapshotInv ∧ State.reset.IdleInv ∧ State.reset.AnswerInv
end

