-- ==== Sys2Proof/Laws/Decode.lean ====
section
/-! SUPPORT. The two fields of a command word, as slices, as numbers and as the parts it is assembled from. -/

namespace Sys2Proof

theorem opcodeField_toNat (w : CmdWord) : (opcodeField w).toNat = w.toNat / 2 ^ 32 := by
  simp only [opcodeField, BitVec.extractLsb'_toNat, Nat.shiftRight_eq_div_pow]
  omega

theorem payloadField_toNat (w : CmdWord) : (payloadField w).toNat = w.toNat % 2 ^ 32 := by
  simp [payloadField, BitVec.extractLsb'_toNat]

/-- A command word as a number. -/
theorem commandWord_toNat (opc : BitVec 8) (p : BitVec 32) :
    (commandWord opc p).toNat = opc.toNat * 2 ^ 32 + p.toNat := by
  simp only [commandWord, BitVec.toNat_append, Nat.shiftLeft_eq]
  rw [Nat.mul_comm, ← Nat.two_pow_add_eq_or_of_lt p.isLt]

@[simp] theorem opcodeField_commandWord (opc : BitVec 8) (p : BitVec 32) : opcodeField (commandWord opc p) = opc := by
  apply BitVec.eq_of_toNat_eq
  rw [opcodeField_toNat, commandWord_toNat]
  omega

@[simp] theorem payloadField_commandWord (opc : BitVec 8) (p : BitVec 32) : payloadField (commandWord opc p) = p := by
  apply BitVec.eq_of_toNat_eq
  rw [payloadField_toNat, commandWord_toNat]
  omega

/-- A word is its opcode and its payload. -/
theorem commandWord_fields (w : CmdWord) : commandWord (opcodeField w) (payloadField w) = w := by
  simp only [opcodeField, payloadField, commandWord]
  rw [BitVec.extractLsb'_append_extractLsb'_eq_extractLsb' (by decide)]
  simp

/-- The opcode compared as a number. -/
theorem opcodeField_eq_iff (w : CmdWord) (k : BitVec 8) : opcodeField w = k ↔ w.toNat / 2 ^ 32 = k.toNat := by
  rw [← opcodeField_toNat, BitVec.toNat_inj]

/-- The payload compared with zero as a number. -/
theorem payloadField_eq_zero_iff (w : CmdWord) : payloadField w = 0#32 ↔ w.toNat % 2 ^ 32 = 0 := by
  rw [← payloadField_toNat, ← BitVec.toNat_inj]
  rfl

/-- `decodeBare` gives the command exactly where the payload is zero. -/
theorem decodeBare_ok_iff (i j : Instr) (p : BitVec 32) : decodeBare i p = .ok j ↔ p = 0#32 ∧ i = j := by
  unfold decodeBare
  split <;> simp_all

end Sys2Proof
end

