-- ==== Sys2Proof/Laws/State.lean ====
section
/-! SUPPORT. One lemma per field per named update of the state, true by rfl, so that no proof unfolds an update. -/

namespace Sys2Proof.Machine

variable (s : State)

/-! ### raiseError -/

@[simp] theorem State.raiseError_build (c : ErrCause) : (s.raiseError c).build = s.build := rfl
@[simp] theorem State.raiseError_ts (c : ErrCause) : (s.raiseError c).ts = s.ts := rfl
@[simp] theorem State.raiseError_vs (c : ErrCause) : (s.raiseError c).vs = s.vs := rfl
@[simp] theorem State.raiseError_mcCount (c : ErrCause) : (s.raiseError c).mcCount = s.mcCount := rfl
@[simp] theorem State.raiseError_mcNext (c : ErrCause) : (s.raiseError c).mcNext = s.mcNext := rfl
@[simp] theorem State.raiseError_schState (c : ErrCause) : (s.raiseError c).schState = s.schState := rfl
@[simp] theorem State.raiseError_wakeAt (c : ErrCause) : (s.raiseError c).wakeAt = s.wakeAt := rfl
@[simp] theorem State.raiseError_txFrame (c : ErrCause) : (s.raiseError c).txFrame = s.txFrame := rfl
@[simp] theorem State.raiseError_err (c : ErrCause) : (s.raiseError c).err = setErrBit s.err c := rfl
@[simp] theorem State.raiseError_ledPulse (c : ErrCause) : (s.raiseError c).ledPulse = s.ledPulse := rfl
@[simp] theorem State.raiseError_events (c : ErrCause) : (s.raiseError c).events = s.events := rfl
@[simp] theorem State.raiseError_rst (c : ErrCause) : (s.raiseError c).rst = s.rst := rfl
@[simp] theorem State.raiseError_now (c : ErrCause) : (s.raiseError c).now = s.now := rfl
@[simp] theorem State.raiseError_cmdQueue (c : ErrCause) : (s.raiseError c).cmdQueue = s.cmdQueue := rfl
@[simp] theorem State.raiseError_txAck (c : ErrCause) : (s.raiseError c).txAck = s.txAck := rfl
@[simp] theorem State.raiseError_txOk (c : ErrCause) : (s.raiseError c).txOk = s.txOk := rfl
@[simp] theorem State.raiseError_wakeTurn (c : ErrCause) : (s.raiseError c).wakeTurn = s.wakeTurn := rfl
@[simp] theorem State.raiseError_script (c : ErrCause) : (s.raiseError c).script = s.script := rfl
@[simp] theorem State.raiseError_stepNo (c : ErrCause) : (s.raiseError c).stepNo = s.stepNo := rfl

/-! ### setTs -/

@[simp] theorem State.setTs_build (q : List Pattern) : (s.setTs q).build = s.build := rfl
@[simp] theorem State.setTs_ts (q : List Pattern) : (s.setTs q).ts = q := rfl
@[simp] theorem State.setTs_vs (q : List Pattern) : (s.setTs q).vs = s.vs := rfl
@[simp] theorem State.setTs_mcCount (q : List Pattern) : (s.setTs q).mcCount = s.mcCount := rfl
@[simp] theorem State.setTs_mcNext (q : List Pattern) : (s.setTs q).mcNext = s.mcNext := rfl
@[simp] theorem State.setTs_schState (q : List Pattern) : (s.setTs q).schState = s.schState := rfl
@[simp] theorem State.setTs_wakeAt (q : List Pattern) : (s.setTs q).wakeAt = s.wakeAt := rfl
@[simp] theorem State.setTs_txFrame (q : List Pattern) : (s.setTs q).txFrame = s.txFrame := rfl
@[simp] theorem State.setTs_err (q : List Pattern) : (s.setTs q).err = s.err := rfl
@[simp] theorem State.setTs_ledPulse (q : List Pattern) : (s.setTs q).ledPulse = s.ledPulse := rfl
@[simp] theorem State.setTs_events (q : List Pattern) : (s.setTs q).events = s.events := rfl
@[simp] theorem State.setTs_rst (q : List Pattern) : (s.setTs q).rst = s.rst := rfl
@[simp] theorem State.setTs_now (q : List Pattern) : (s.setTs q).now = s.now := rfl
@[simp] theorem State.setTs_cmdQueue (q : List Pattern) : (s.setTs q).cmdQueue = s.cmdQueue := rfl
@[simp] theorem State.setTs_txAck (q : List Pattern) : (s.setTs q).txAck = s.txAck := rfl
@[simp] theorem State.setTs_txOk (q : List Pattern) : (s.setTs q).txOk = s.txOk := rfl
@[simp] theorem State.setTs_wakeTurn (q : List Pattern) : (s.setTs q).wakeTurn = s.wakeTurn := rfl
@[simp] theorem State.setTs_script (q : List Pattern) : (s.setTs q).script = s.script := rfl
@[simp] theorem State.setTs_stepNo (q : List Pattern) : (s.setTs q).stepNo = s.stepNo := rfl

/-! ### setVs -/

@[simp] theorem State.setVs_build (q : List Pattern) : (s.setVs q).build = s.build := rfl
@[simp] theorem State.setVs_ts (q : List Pattern) : (s.setVs q).ts = s.ts := rfl
@[simp] theorem State.setVs_vs (q : List Pattern) : (s.setVs q).vs = q := rfl
@[simp] theorem State.setVs_mcCount (q : List Pattern) : (s.setVs q).mcCount = s.mcCount := rfl
@[simp] theorem State.setVs_mcNext (q : List Pattern) : (s.setVs q).mcNext = s.mcNext := rfl
@[simp] theorem State.setVs_schState (q : List Pattern) : (s.setVs q).schState = s.schState := rfl
@[simp] theorem State.setVs_wakeAt (q : List Pattern) : (s.setVs q).wakeAt = s.wakeAt := rfl
@[simp] theorem State.setVs_txFrame (q : List Pattern) : (s.setVs q).txFrame = s.txFrame := rfl
@[simp] theorem State.setVs_err (q : List Pattern) : (s.setVs q).err = s.err := rfl
@[simp] theorem State.setVs_ledPulse (q : List Pattern) : (s.setVs q).ledPulse = s.ledPulse := rfl
@[simp] theorem State.setVs_events (q : List Pattern) : (s.setVs q).events = s.events := rfl
@[simp] theorem State.setVs_rst (q : List Pattern) : (s.setVs q).rst = s.rst := rfl
@[simp] theorem State.setVs_now (q : List Pattern) : (s.setVs q).now = s.now := rfl
@[simp] theorem State.setVs_cmdQueue (q : List Pattern) : (s.setVs q).cmdQueue = s.cmdQueue := rfl
@[simp] theorem State.setVs_txAck (q : List Pattern) : (s.setVs q).txAck = s.txAck := rfl
@[simp] theorem State.setVs_txOk (q : List Pattern) : (s.setVs q).txOk = s.txOk := rfl
@[simp] theorem State.setVs_wakeTurn (q : List Pattern) : (s.setVs q).wakeTurn = s.wakeTurn := rfl
@[simp] theorem State.setVs_script (q : List Pattern) : (s.setVs q).script = s.script := rfl
@[simp] theorem State.setVs_stepNo (q : List Pattern) : (s.setVs q).stepNo = s.stepNo := rfl

/-! ### setCount -/

@[simp] theorem State.setCount_build (c : BitVec 16) : (s.setCount c).build = s.build := rfl
@[simp] theorem State.setCount_ts (c : BitVec 16) : (s.setCount c).ts = s.ts := rfl
@[simp] theorem State.setCount_vs (c : BitVec 16) : (s.setCount c).vs = s.vs := rfl
@[simp] theorem State.setCount_mcCount (c : BitVec 16) : (s.setCount c).mcCount = c := rfl
@[simp] theorem State.setCount_mcNext (c : BitVec 16) : (s.setCount c).mcNext = s.mcNext := rfl
@[simp] theorem State.setCount_schState (c : BitVec 16) : (s.setCount c).schState = s.schState := rfl
@[simp] theorem State.setCount_wakeAt (c : BitVec 16) : (s.setCount c).wakeAt = s.wakeAt := rfl
@[simp] theorem State.setCount_txFrame (c : BitVec 16) : (s.setCount c).txFrame = s.txFrame := rfl
@[simp] theorem State.setCount_err (c : BitVec 16) : (s.setCount c).err = s.err := rfl
@[simp] theorem State.setCount_ledPulse (c : BitVec 16) : (s.setCount c).ledPulse = s.ledPulse := rfl
@[simp] theorem State.setCount_events (c : BitVec 16) : (s.setCount c).events = s.events := rfl
@[simp] theorem State.setCount_rst (c : BitVec 16) : (s.setCount c).rst = s.rst := rfl
@[simp] theorem State.setCount_now (c : BitVec 16) : (s.setCount c).now = s.now := rfl
@[simp] theorem State.setCount_cmdQueue (c : BitVec 16) : (s.setCount c).cmdQueue = s.cmdQueue := rfl
@[simp] theorem State.setCount_txAck (c : BitVec 16) : (s.setCount c).txAck = s.txAck := rfl
@[simp] theorem State.setCount_txOk (c : BitVec 16) : (s.setCount c).txOk = s.txOk := rfl
@[simp] theorem State.setCount_wakeTurn (c : BitVec 16) : (s.setCount c).wakeTurn = s.wakeTurn := rfl
@[simp] theorem State.setCount_script (c : BitVec 16) : (s.setCount c).script = s.script := rfl
@[simp] theorem State.setCount_stepNo (c : BitVec 16) : (s.setCount c).stepNo = s.stepNo := rfl

/-! ### setMcNext -/

@[simp] theorem State.setMcNext_build (t : Nat) : (s.setMcNext t).build = s.build := rfl
@[simp] theorem State.setMcNext_ts (t : Nat) : (s.setMcNext t).ts = s.ts := rfl
@[simp] theorem State.setMcNext_vs (t : Nat) : (s.setMcNext t).vs = s.vs := rfl
@[simp] theorem State.setMcNext_mcCount (t : Nat) : (s.setMcNext t).mcCount = s.mcCount := rfl
@[simp] theorem State.setMcNext_mcNext (t : Nat) : (s.setMcNext t).mcNext = t := rfl
@[simp] theorem State.setMcNext_schState (t : Nat) : (s.setMcNext t).schState = s.schState := rfl
@[simp] theorem State.setMcNext_wakeAt (t : Nat) : (s.setMcNext t).wakeAt = s.wakeAt := rfl
@[simp] theorem State.setMcNext_txFrame (t : Nat) : (s.setMcNext t).txFrame = s.txFrame := rfl
@[simp] theorem State.setMcNext_err (t : Nat) : (s.setMcNext t).err = s.err := rfl
@[simp] theorem State.setMcNext_ledPulse (t : Nat) : (s.setMcNext t).ledPulse = s.ledPulse := rfl
@[simp] theorem State.setMcNext_events (t : Nat) : (s.setMcNext t).events = s.events := rfl
@[simp] theorem State.setMcNext_rst (t : Nat) : (s.setMcNext t).rst = s.rst := rfl
@[simp] theorem State.setMcNext_now (t : Nat) : (s.setMcNext t).now = s.now := rfl
@[simp] theorem State.setMcNext_cmdQueue (t : Nat) : (s.setMcNext t).cmdQueue = s.cmdQueue := rfl
@[simp] theorem State.setMcNext_txAck (t : Nat) : (s.setMcNext t).txAck = s.txAck := rfl
@[simp] theorem State.setMcNext_txOk (t : Nat) : (s.setMcNext t).txOk = s.txOk := rfl
@[simp] theorem State.setMcNext_wakeTurn (t : Nat) : (s.setMcNext t).wakeTurn = s.wakeTurn := rfl
@[simp] theorem State.setMcNext_script (t : Nat) : (s.setMcNext t).script = s.script := rfl
@[simp] theorem State.setMcNext_stepNo (t : Nat) : (s.setMcNext t).stepNo = s.stepNo := rfl

/-! ### mcReset -/

@[simp] theorem State.mcReset_build : (s.mcReset).build = s.build := rfl
@[simp] theorem State.mcReset_ts : (s.mcReset).ts = s.ts := rfl
@[simp] theorem State.mcReset_vs : (s.mcReset).vs = s.vs := rfl
@[simp] theorem State.mcReset_mcCount : (s.mcReset).mcCount = 0#16 := rfl
@[simp] theorem State.mcReset_mcNext : (s.mcReset).mcNext = s.mcNext := rfl
@[simp] theorem State.mcReset_schState : (s.mcReset).schState = s.schState := rfl
@[simp] theorem State.mcReset_wakeAt : (s.mcReset).wakeAt = s.wakeAt := rfl
@[simp] theorem State.mcReset_txFrame : (s.mcReset).txFrame = s.txFrame := rfl
@[simp] theorem State.mcReset_err : (s.mcReset).err = s.err := rfl
@[simp] theorem State.mcReset_ledPulse : (s.mcReset).ledPulse = s.ledPulse := rfl
@[simp] theorem State.mcReset_events : (s.mcReset).events = s.events := rfl
@[simp] theorem State.mcReset_rst : (s.mcReset).rst = s.rst := rfl
@[simp] theorem State.mcReset_now : (s.mcReset).now = s.now := rfl
@[simp] theorem State.mcReset_cmdQueue : (s.mcReset).cmdQueue = s.cmdQueue := rfl
@[simp] theorem State.mcReset_txAck : (s.mcReset).txAck = s.txAck := rfl
@[simp] theorem State.mcReset_txOk : (s.mcReset).txOk = s.txOk := rfl
@[simp] theorem State.mcReset_wakeTurn : (s.mcReset).wakeTurn = s.wakeTurn := rfl
@[simp] theorem State.mcReset_script : (s.mcReset).script = s.script := rfl
@[simp] theorem State.mcReset_stepNo : (s.mcReset).stepNo = s.stepNo := rfl

/-! ### planAbsolute -/

@[simp] theorem State.planAbsolute_build (t : Nat) : (s.planAbsolute t).build = s.build := rfl
@[simp] theorem State.planAbsolute_ts (t : Nat) : (s.planAbsolute t).ts = s.ts := rfl
@[simp] theorem State.planAbsolute_vs (t : Nat) : (s.planAbsolute t).vs = s.vs := rfl
@[simp] theorem State.planAbsolute_mcCount (t : Nat) : (s.planAbsolute t).mcCount = s.mcCount := rfl
@[simp] theorem State.planAbsolute_mcNext (t : Nat) : (s.planAbsolute t).mcNext = s.mcNext := rfl
@[simp] theorem State.planAbsolute_schState (t : Nat) : (s.planAbsolute t).schState = s.schState := rfl
@[simp] theorem State.planAbsolute_wakeAt (t : Nat) : (s.planAbsolute t).wakeAt = t := rfl
@[simp] theorem State.planAbsolute_txFrame (t : Nat) : (s.planAbsolute t).txFrame = s.txFrame := rfl
@[simp] theorem State.planAbsolute_err (t : Nat) : (s.planAbsolute t).err = s.err := rfl
@[simp] theorem State.planAbsolute_ledPulse (t : Nat) : (s.planAbsolute t).ledPulse = s.ledPulse := rfl
@[simp] theorem State.planAbsolute_events (t : Nat) : (s.planAbsolute t).events = s.events := rfl
@[simp] theorem State.planAbsolute_rst (t : Nat) : (s.planAbsolute t).rst = s.rst := rfl
@[simp] theorem State.planAbsolute_now (t : Nat) : (s.planAbsolute t).now = s.now := rfl
@[simp] theorem State.planAbsolute_cmdQueue (t : Nat) : (s.planAbsolute t).cmdQueue = s.cmdQueue := rfl
@[simp] theorem State.planAbsolute_txAck (t : Nat) : (s.planAbsolute t).txAck = s.txAck := rfl
@[simp] theorem State.planAbsolute_txOk (t : Nat) : (s.planAbsolute t).txOk = s.txOk := rfl
@[simp] theorem State.planAbsolute_wakeTurn (t : Nat) : (s.planAbsolute t).wakeTurn = s.wakeTurn := rfl
@[simp] theorem State.planAbsolute_script (t : Nat) : (s.planAbsolute t).script = s.script := rfl
@[simp] theorem State.planAbsolute_stepNo (t : Nat) : (s.planAbsolute t).stepNo = s.stepNo := rfl

/-! ### setSch -/

@[simp] theorem State.setSch_build (x : SchState) : (s.setSch x).build = s.build := rfl
@[simp] theorem State.setSch_ts (x : SchState) : (s.setSch x).ts = s.ts := rfl
@[simp] theorem State.setSch_vs (x : SchState) : (s.setSch x).vs = s.vs := rfl
@[simp] theorem State.setSch_mcCount (x : SchState) : (s.setSch x).mcCount = s.mcCount := rfl
@[simp] theorem State.setSch_mcNext (x : SchState) : (s.setSch x).mcNext = s.mcNext := rfl
@[simp] theorem State.setSch_schState (x : SchState) : (s.setSch x).schState = x := rfl
@[simp] theorem State.setSch_wakeAt (x : SchState) : (s.setSch x).wakeAt = s.wakeAt := rfl
@[simp] theorem State.setSch_txFrame (x : SchState) : (s.setSch x).txFrame = s.txFrame := rfl
@[simp] theorem State.setSch_err (x : SchState) : (s.setSch x).err = s.err := rfl
@[simp] theorem State.setSch_ledPulse (x : SchState) : (s.setSch x).ledPulse = s.ledPulse := rfl
@[simp] theorem State.setSch_events (x : SchState) : (s.setSch x).events = s.events := rfl
@[simp] theorem State.setSch_rst (x : SchState) : (s.setSch x).rst = s.rst := rfl
@[simp] theorem State.setSch_now (x : SchState) : (s.setSch x).now = s.now := rfl
@[simp] theorem State.setSch_cmdQueue (x : SchState) : (s.setSch x).cmdQueue = s.cmdQueue := rfl
@[simp] theorem State.setSch_txAck (x : SchState) : (s.setSch x).txAck = s.txAck := rfl
@[simp] theorem State.setSch_txOk (x : SchState) : (s.setSch x).txOk = s.txOk := rfl
@[simp] theorem State.setSch_wakeTurn (x : SchState) : (s.setSch x).wakeTurn = s.wakeTurn := rfl
@[simp] theorem State.setSch_script (x : SchState) : (s.setSch x).script = s.script := rfl
@[simp] theorem State.setSch_stepNo (x : SchState) : (s.setSch x).stepNo = s.stepNo := rfl

/-! ### setFrame -/

@[simp] theorem State.setFrame_build (f : Frame) : (s.setFrame f).build = s.build := rfl
@[simp] theorem State.setFrame_ts (f : Frame) : (s.setFrame f).ts = s.ts := rfl
@[simp] theorem State.setFrame_vs (f : Frame) : (s.setFrame f).vs = s.vs := rfl
@[simp] theorem State.setFrame_mcCount (f : Frame) : (s.setFrame f).mcCount = s.mcCount := rfl
@[simp] theorem State.setFrame_mcNext (f : Frame) : (s.setFrame f).mcNext = s.mcNext := rfl
@[simp] theorem State.setFrame_schState (f : Frame) : (s.setFrame f).schState = s.schState := rfl
@[simp] theorem State.setFrame_wakeAt (f : Frame) : (s.setFrame f).wakeAt = s.wakeAt := rfl
@[simp] theorem State.setFrame_txFrame (f : Frame) : (s.setFrame f).txFrame = f := rfl
@[simp] theorem State.setFrame_err (f : Frame) : (s.setFrame f).err = s.err := rfl
@[simp] theorem State.setFrame_ledPulse (f : Frame) : (s.setFrame f).ledPulse = s.ledPulse := rfl
@[simp] theorem State.setFrame_events (f : Frame) : (s.setFrame f).events = s.events := rfl
@[simp] theorem State.setFrame_rst (f : Frame) : (s.setFrame f).rst = s.rst := rfl
@[simp] theorem State.setFrame_now (f : Frame) : (s.setFrame f).now = s.now := rfl
@[simp] theorem State.setFrame_cmdQueue (f : Frame) : (s.setFrame f).cmdQueue = s.cmdQueue := rfl
@[simp] theorem State.setFrame_txAck (f : Frame) : (s.setFrame f).txAck = s.txAck := rfl
@[simp] theorem State.setFrame_txOk (f : Frame) : (s.setFrame f).txOk = s.txOk := rfl
@[simp] theorem State.setFrame_wakeTurn (f : Frame) : (s.setFrame f).wakeTurn = s.wakeTurn := rfl
@[simp] theorem State.setFrame_script (f : Frame) : (s.setFrame f).script = s.script := rfl
@[simp] theorem State.setFrame_stepNo (f : Frame) : (s.setFrame f).stepNo = s.stepNo := rfl

/-! ### emitTxRequest -/

@[simp] theorem State.emitTxRequest_build (f : Frame) : (s.emitTxRequest f).build = s.build := rfl
@[simp] theorem State.emitTxRequest_ts (f : Frame) : (s.emitTxRequest f).ts = s.ts := rfl
@[simp] theorem State.emitTxRequest_vs (f : Frame) : (s.emitTxRequest f).vs = s.vs := rfl
@[simp] theorem State.emitTxRequest_mcCount (f : Frame) : (s.emitTxRequest f).mcCount = s.mcCount := rfl
@[simp] theorem State.emitTxRequest_mcNext (f : Frame) : (s.emitTxRequest f).mcNext = s.mcNext := rfl
@[simp] theorem State.emitTxRequest_schState (f : Frame) : (s.emitTxRequest f).schState = s.schState := rfl
@[simp] theorem State.emitTxRequest_wakeAt (f : Frame) : (s.emitTxRequest f).wakeAt = s.wakeAt := rfl
@[simp] theorem State.emitTxRequest_txFrame (f : Frame) : (s.emitTxRequest f).txFrame = s.txFrame := rfl
@[simp] theorem State.emitTxRequest_err (f : Frame) : (s.emitTxRequest f).err = s.err := rfl
@[simp] theorem State.emitTxRequest_ledPulse (f : Frame) : (s.emitTxRequest f).ledPulse = s.ledPulse := rfl
@[simp] theorem State.emitTxRequest_events (f : Frame) :
    (s.emitTxRequest f).events = s.events ++ [.txRequest f s.now] := rfl
@[simp] theorem State.emitTxRequest_rst (f : Frame) : (s.emitTxRequest f).rst = s.rst := rfl
@[simp] theorem State.emitTxRequest_now (f : Frame) : (s.emitTxRequest f).now = s.now := rfl
@[simp] theorem State.emitTxRequest_cmdQueue (f : Frame) : (s.emitTxRequest f).cmdQueue = s.cmdQueue := rfl
@[simp] theorem State.emitTxRequest_txAck (f : Frame) : (s.emitTxRequest f).txAck = s.txAck := rfl
@[simp] theorem State.emitTxRequest_txOk (f : Frame) : (s.emitTxRequest f).txOk = s.txOk := rfl
@[simp] theorem State.emitTxRequest_wakeTurn (f : Frame) : (s.emitTxRequest f).wakeTurn = s.wakeTurn := rfl
@[simp] theorem State.emitTxRequest_script (f : Frame) : (s.emitTxRequest f).script = s.script := rfl
@[simp] theorem State.emitTxRequest_stepNo (f : Frame) : (s.emitTxRequest f).stepNo = s.stepNo := rfl

/-! ### emitLedPulse -/

@[simp] theorem State.emitLedPulse_build : (s.emitLedPulse).build = s.build := rfl
@[simp] theorem State.emitLedPulse_ts : (s.emitLedPulse).ts = s.ts := rfl
@[simp] theorem State.emitLedPulse_vs : (s.emitLedPulse).vs = s.vs := rfl
@[simp] theorem State.emitLedPulse_mcCount : (s.emitLedPulse).mcCount = s.mcCount := rfl
@[simp] theorem State.emitLedPulse_mcNext : (s.emitLedPulse).mcNext = s.mcNext := rfl
@[simp] theorem State.emitLedPulse_schState : (s.emitLedPulse).schState = s.schState := rfl
@[simp] theorem State.emitLedPulse_wakeAt : (s.emitLedPulse).wakeAt = s.wakeAt := rfl
@[simp] theorem State.emitLedPulse_txFrame : (s.emitLedPulse).txFrame = s.txFrame := rfl
@[simp] theorem State.emitLedPulse_err : (s.emitLedPulse).err = s.err := rfl
@[simp] theorem State.emitLedPulse_ledPulse : (s.emitLedPulse).ledPulse = true := rfl
@[simp] theorem State.emitLedPulse_events : (s.emitLedPulse).events = s.events ++ [.ledPulse s.now] := rfl
@[simp] theorem State.emitLedPulse_rst : (s.emitLedPulse).rst = s.rst := rfl
@[simp] theorem State.emitLedPulse_now : (s.emitLedPulse).now = s.now := rfl
@[simp] theorem State.emitLedPulse_cmdQueue : (s.emitLedPulse).cmdQueue = s.cmdQueue := rfl
@[simp] theorem State.emitLedPulse_txAck : (s.emitLedPulse).txAck = s.txAck := rfl
@[simp] theorem State.emitLedPulse_txOk : (s.emitLedPulse).txOk = s.txOk := rfl
@[simp] theorem State.emitLedPulse_wakeTurn : (s.emitLedPulse).wakeTurn = s.wakeTurn := rfl
@[simp] theorem State.emitLedPulse_script : (s.emitLedPulse).script = s.script := rfl
@[simp] theorem State.emitLedPulse_stepNo : (s.emitLedPulse).stepNo = s.stepNo := rfl

/-! ### resetRegisters -/

@[simp] theorem State.resetRegisters_build : (s.resetRegisters).build = s.build := rfl
@[simp] theorem State.resetRegisters_ts : (s.resetRegisters).ts = [] := rfl
@[simp] theorem State.resetRegisters_vs : (s.resetRegisters).vs = [] := rfl
@[simp] theorem State.resetRegisters_mcCount : (s.resetRegisters).mcCount = 0#16 := rfl
@[simp] theorem State.resetRegisters_mcNext : (s.resetRegisters).mcNext = 0 := rfl
@[simp] theorem State.resetRegisters_schState : (s.resetRegisters).schState = .idle := rfl
@[simp] theorem State.resetRegisters_wakeAt : (s.resetRegisters).wakeAt = 0 := rfl
@[simp] theorem State.resetRegisters_txFrame : (s.resetRegisters).txFrame = 0#40 := rfl
@[simp] theorem State.resetRegisters_err : (s.resetRegisters).err = 0#4 := rfl
@[simp] theorem State.resetRegisters_ledPulse : (s.resetRegisters).ledPulse = false := rfl
@[simp] theorem State.resetRegisters_events : (s.resetRegisters).events = s.events := rfl
@[simp] theorem State.resetRegisters_rst : (s.resetRegisters).rst = s.rst := rfl
@[simp] theorem State.resetRegisters_now : (s.resetRegisters).now = s.now := rfl
@[simp] theorem State.resetRegisters_cmdQueue : (s.resetRegisters).cmdQueue = s.cmdQueue := rfl
@[simp] theorem State.resetRegisters_txAck : (s.resetRegisters).txAck = s.txAck := rfl
@[simp] theorem State.resetRegisters_txOk : (s.resetRegisters).txOk = s.txOk := rfl
@[simp] theorem State.resetRegisters_wakeTurn : (s.resetRegisters).wakeTurn = s.wakeTurn := rfl
@[simp] theorem State.resetRegisters_script : (s.resetRegisters).script = s.script := rfl
@[simp] theorem State.resetRegisters_stepNo : (s.resetRegisters).stepNo = s.stepNo := rfl

/-! ### beginStep -/

@[simp] theorem State.beginStep_build : (s.beginStep).build = s.build := rfl
@[simp] theorem State.beginStep_ts : (s.beginStep).ts = s.ts := rfl
@[simp] theorem State.beginStep_vs : (s.beginStep).vs = s.vs := rfl
@[simp] theorem State.beginStep_mcCount : (s.beginStep).mcCount = s.mcCount := rfl
@[simp] theorem State.beginStep_mcNext : (s.beginStep).mcNext = s.mcNext := rfl
@[simp] theorem State.beginStep_schState : (s.beginStep).schState = s.schState := rfl
@[simp] theorem State.beginStep_wakeAt : (s.beginStep).wakeAt = s.wakeAt := rfl
@[simp] theorem State.beginStep_txFrame : (s.beginStep).txFrame = s.txFrame := rfl
@[simp] theorem State.beginStep_err : (s.beginStep).err = s.err := rfl
@[simp] theorem State.beginStep_ledPulse : (s.beginStep).ledPulse = false := rfl
@[simp] theorem State.beginStep_events : (s.beginStep).events = s.events := rfl
@[simp] theorem State.beginStep_rst : (s.beginStep).rst = s.rst := rfl
@[simp] theorem State.beginStep_now : (s.beginStep).now = s.now := rfl
@[simp] theorem State.beginStep_cmdQueue : (s.beginStep).cmdQueue = s.cmdQueue := rfl
@[simp] theorem State.beginStep_txAck : (s.beginStep).txAck = s.txAck := rfl
@[simp] theorem State.beginStep_txOk : (s.beginStep).txOk = s.txOk := rfl
@[simp] theorem State.beginStep_wakeTurn : (s.beginStep).wakeTurn = s.wakeTurn := rfl
@[simp] theorem State.beginStep_script : (s.beginStep).script = s.script := rfl
@[simp] theorem State.beginStep_stepNo : (s.beginStep).stepNo = s.stepNo := rfl

/-! ### dropCommand -/

@[simp] theorem State.dropCommand_build : (s.dropCommand).build = s.build := rfl
@[simp] theorem State.dropCommand_ts : (s.dropCommand).ts = s.ts := rfl
@[simp] theorem State.dropCommand_vs : (s.dropCommand).vs = s.vs := rfl
@[simp] theorem State.dropCommand_mcCount : (s.dropCommand).mcCount = s.mcCount := rfl
@[simp] theorem State.dropCommand_mcNext : (s.dropCommand).mcNext = s.mcNext := rfl
@[simp] theorem State.dropCommand_schState : (s.dropCommand).schState = s.schState := rfl
@[simp] theorem State.dropCommand_wakeAt : (s.dropCommand).wakeAt = s.wakeAt := rfl
@[simp] theorem State.dropCommand_txFrame : (s.dropCommand).txFrame = s.txFrame := rfl
@[simp] theorem State.dropCommand_err : (s.dropCommand).err = s.err := rfl
@[simp] theorem State.dropCommand_ledPulse : (s.dropCommand).ledPulse = s.ledPulse := rfl
@[simp] theorem State.dropCommand_events : (s.dropCommand).events = s.events := rfl
@[simp] theorem State.dropCommand_rst : (s.dropCommand).rst = s.rst := rfl
@[simp] theorem State.dropCommand_now : (s.dropCommand).now = s.now := rfl
@[simp] theorem State.dropCommand_cmdQueue : (s.dropCommand).cmdQueue = s.cmdQueue.tail := rfl
@[simp] theorem State.dropCommand_txAck : (s.dropCommand).txAck = s.txAck := rfl
@[simp] theorem State.dropCommand_txOk : (s.dropCommand).txOk = s.txOk := rfl
@[simp] theorem State.dropCommand_wakeTurn : (s.dropCommand).wakeTurn = s.wakeTurn := rfl
@[simp] theorem State.dropCommand_script : (s.dropCommand).script = s.script := rfl
@[simp] theorem State.dropCommand_stepNo : (s.dropCommand).stepNo = s.stepNo := rfl

/-! ### dropAck -/

@[simp] theorem State.dropAck_build : (s.dropAck).build = s.build := rfl
@[simp] theorem State.dropAck_ts : (s.dropAck).ts = s.ts := rfl
@[simp] theorem State.dropAck_vs : (s.dropAck).vs = s.vs := rfl
@[simp] theorem State.dropAck_mcCount : (s.dropAck).mcCount = s.mcCount := rfl
@[simp] theorem State.dropAck_mcNext : (s.dropAck).mcNext = s.mcNext := rfl
@[simp] theorem State.dropAck_schState : (s.dropAck).schState = s.schState := rfl
@[simp] theorem State.dropAck_wakeAt : (s.dropAck).wakeAt = s.wakeAt := rfl
@[simp] theorem State.dropAck_txFrame : (s.dropAck).txFrame = s.txFrame := rfl
@[simp] theorem State.dropAck_err : (s.dropAck).err = s.err := rfl
@[simp] theorem State.dropAck_ledPulse : (s.dropAck).ledPulse = s.ledPulse := rfl
@[simp] theorem State.dropAck_events : (s.dropAck).events = s.events := rfl
@[simp] theorem State.dropAck_rst : (s.dropAck).rst = s.rst := rfl
@[simp] theorem State.dropAck_now : (s.dropAck).now = s.now := rfl
@[simp] theorem State.dropAck_cmdQueue : (s.dropAck).cmdQueue = s.cmdQueue := rfl
@[simp] theorem State.dropAck_txAck : (s.dropAck).txAck = false := rfl
@[simp] theorem State.dropAck_txOk : (s.dropAck).txOk = s.txOk := rfl
@[simp] theorem State.dropAck_wakeTurn : (s.dropAck).wakeTurn = s.wakeTurn := rfl
@[simp] theorem State.dropAck_script : (s.dropAck).script = s.script := rfl
@[simp] theorem State.dropAck_stepNo : (s.dropAck).stepNo = s.stepNo + 1 := rfl

/-! ### nextEdge -/

@[simp] theorem State.nextEdge_build : (s.nextEdge).build = s.build := rfl
@[simp] theorem State.nextEdge_ts : (s.nextEdge).ts = s.ts := rfl
@[simp] theorem State.nextEdge_vs : (s.nextEdge).vs = s.vs := rfl
@[simp] theorem State.nextEdge_mcCount : (s.nextEdge).mcCount = s.mcCount := rfl
@[simp] theorem State.nextEdge_mcNext : (s.nextEdge).mcNext = s.mcNext := rfl
@[simp] theorem State.nextEdge_schState : (s.nextEdge).schState = s.schState := rfl
@[simp] theorem State.nextEdge_wakeAt : (s.nextEdge).wakeAt = s.wakeAt := rfl
@[simp] theorem State.nextEdge_txFrame : (s.nextEdge).txFrame = s.txFrame := rfl
@[simp] theorem State.nextEdge_err : (s.nextEdge).err = s.err := rfl
@[simp] theorem State.nextEdge_ledPulse : (s.nextEdge).ledPulse = s.ledPulse := rfl
@[simp] theorem State.nextEdge_events : (s.nextEdge).events = s.events := rfl
@[simp] theorem State.nextEdge_rst : (s.nextEdge).rst = s.comingEdge.rst := rfl
@[simp] theorem State.nextEdge_now : (s.nextEdge).now = advanceNow s.build s.now s.comingEdge.elapsed := rfl
@[simp] theorem State.nextEdge_cmdQueue : (s.nextEdge).cmdQueue = s.cmdQueue ++ s.comingEdge.offer := rfl
@[simp] theorem State.nextEdge_txAck : (s.nextEdge).txAck = s.comingEdge.txAck := rfl
@[simp] theorem State.nextEdge_txOk : (s.nextEdge).txOk = s.comingEdge.txOk := rfl
@[simp] theorem State.nextEdge_wakeTurn : (s.nextEdge).wakeTurn = s.comingEdge.wakeTurn := rfl
@[simp] theorem State.nextEdge_script : (s.nextEdge).script = s.script.tail := rfl
@[simp] theorem State.nextEdge_stepNo : (s.nextEdge).stepNo = s.stepNo + 1 := rfl

/-! ### offerNow -/

@[simp] theorem State.offerNow_build (w : CmdWord) : (s.offerNow w).build = s.build := rfl
@[simp] theorem State.offerNow_ts (w : CmdWord) : (s.offerNow w).ts = s.ts := rfl
@[simp] theorem State.offerNow_vs (w : CmdWord) : (s.offerNow w).vs = s.vs := rfl
@[simp] theorem State.offerNow_mcCount (w : CmdWord) : (s.offerNow w).mcCount = s.mcCount := rfl
@[simp] theorem State.offerNow_mcNext (w : CmdWord) : (s.offerNow w).mcNext = s.mcNext := rfl
@[simp] theorem State.offerNow_schState (w : CmdWord) : (s.offerNow w).schState = .pending := rfl
@[simp] theorem State.offerNow_wakeAt (w : CmdWord) : (s.offerNow w).wakeAt = s.wakeAt := rfl
@[simp] theorem State.offerNow_txFrame (w : CmdWord) : (s.offerNow w).txFrame = s.txFrame := rfl
@[simp] theorem State.offerNow_err (w : CmdWord) : (s.offerNow w).err = s.err := rfl
@[simp] theorem State.offerNow_ledPulse (w : CmdWord) : (s.offerNow w).ledPulse = s.ledPulse := rfl
@[simp] theorem State.offerNow_events (w : CmdWord) : (s.offerNow w).events = s.events := rfl
@[simp] theorem State.offerNow_rst (w : CmdWord) : (s.offerNow w).rst = false := rfl
@[simp] theorem State.offerNow_now (w : CmdWord) : (s.offerNow w).now = s.now := rfl
@[simp] theorem State.offerNow_cmdQueue (w : CmdWord) : (s.offerNow w).cmdQueue = w :: s.cmdQueue := rfl
@[simp] theorem State.offerNow_txAck (w : CmdWord) : (s.offerNow w).txAck = false := rfl
@[simp] theorem State.offerNow_txOk (w : CmdWord) : (s.offerNow w).txOk = s.txOk := rfl
@[simp] theorem State.offerNow_wakeTurn (w : CmdWord) : (s.offerNow w).wakeTurn = false := rfl
@[simp] theorem State.offerNow_script (w : CmdWord) : (s.offerNow w).script = s.script := rfl
@[simp] theorem State.offerNow_stepNo (w : CmdWord) : (s.offerNow w).stepNo = s.stepNo := rfl

end Sys2Proof.Machine
end

