-- ==== Sys2Proof/Laws/Ops.lean ====
section
/-! SUPPORT. One lemma for each shared operation that says what it can do, which proofs cite instead of unfolding it. -/

namespace Sys2Proof.Machine

/-! ### The handshake -/

theorem cmdReady_iff (s : State) : s.cmdReady = true ↔ s.schState = .pending ∧ s.rst = false := by
  simp [State.cmdReady]

theorem whenAccepted_of_ready {s : State} (h : s.schState = .pending) (hr : s.rst = false) (r : Result) :
    whenAccepted s r = r := by
  simp [whenAccepted, (cmdReady_iff s).2 ⟨h, hr⟩]

theorem whenAccepted_of_not_ready {s : State} (h : ¬(s.schState = .pending ∧ s.rst = false)) (r : Result) :
    whenAccepted s r = .next s := by
  simp [whenAccepted, held, mt (cmdReady_iff s).1 h]

/-- A command that answers a next state either was held or answered it itself. -/
theorem whenAccepted_next {s t : State} {r : Result} (h : whenAccepted s r = .next t) :
    t = s ∨ (s.schState = .pending ∧ s.rst = false ∧ r = .next t) := by
  by_cases hc : s.schState = .pending ∧ s.rst = false
  · rw [whenAccepted_of_ready hc.1 hc.2] at h
    exact .inr ⟨hc.1, hc.2, h⟩
  · rw [whenAccepted_of_not_ready hc] at h
    cases h
    exact .inl rfl

theorem wakeDue_iff (s : State) : s.wakeDue = true ↔ s.schState = .pending ∧ s.wakeAt ≤ s.now := by
  simp [State.wakeDue]

/-! ### Time sums -/

theorem withTime_of_fits {b : Build} {base off : Nat} (h : base + off < 2 ^ b.tickW) (k : Nat → State) :
    withTime b base off k = .next (k (base + off)) := by
  simp [withTime, h]

theorem withTime_of_overflow {b : Build} {base off : Nat} (h : 2 ^ b.tickW ≤ base + off) (k : Nat → State) :
    withTime b base off k = .refused .timeOverflow := by
  simp [withTime, Nat.not_lt.2 h]

/-- A time sum that answers a next state fits TICK_W bits. -/
theorem withTime_next {b : Build} {base off : Nat} {k : Nat → State} {t : State}
    (h : withTime b base off k = .next t) : base + off < 2 ^ b.tickW ∧ t = k (base + off) := by
  by_cases hf : base + off < 2 ^ b.tickW
  · rw [withTime_of_fits hf] at h
    cases h
    exact ⟨hf, rfl⟩
  · rw [withTime_of_overflow (Nat.not_lt.1 hf)] at h
    cases h

/-- A time sum is refused for one reason only. -/
theorem withTime_refused {b : Build} {base off : Nat} {k : Nat → State} {r : Refusal}
    (h : withTime b base off k = .refused r) : 2 ^ b.tickW ≤ base + off ∧ r = .timeOverflow := by
  by_cases hf : base + off < 2 ^ b.tickW
  · rw [withTime_of_fits hf] at h
    cases h
  · rw [withTime_of_overflow (Nat.not_lt.1 hf)] at h
    cases h
    exact ⟨Nat.not_lt.1 hf, rfl⟩

theorem le_advanceNow (b : Build) (now elapsed : Nat) : now ≤ advanceNow b now elapsed := by
  simp [advanceNow]

theorem advanceNow_lt {b : Build} {now : Nat} (h : now < 2 ^ b.tickW) (elapsed : Nat) :
    advanceNow b now elapsed < 2 ^ b.tickW := by
  unfold advanceNow
  omega

/-! ### The coming edge -/

theorem comingEdge_of_script {s : State} {e : Edge} {es : List Edge} (h : s.script = e :: es) : s.comingEdge = e := by
  simp [State.comingEdge, h]

/-- Past the script the coming edge is the unscripted one. -/
theorem comingEdge_of_nil {s : State} (h : s.script = []) : s.comingEdge = s.unscriptedEdge := by
  simp [State.comingEdge, h]

@[simp] theorem unscriptedEdge_rst (s : State) : s.unscriptedEdge.rst = false := by
  cases h : s.schState <;> simp [State.unscriptedEdge, Edge.quiet, h]

@[simp] theorem unscriptedEdge_elapsed (s : State) : s.unscriptedEdge.elapsed = 0 := by
  cases h : s.schState <;> simp [State.unscriptedEdge, Edge.quiet, h]

@[simp] theorem unscriptedEdge_offer (s : State) : s.unscriptedEdge.offer = [] := by
  cases h : s.schState <;> simp [State.unscriptedEdge, Edge.quiet, h]

@[simp] theorem unscriptedEdge_txAck (s : State) : s.unscriptedEdge.txAck = decide (s.schState = .waitTx) := by
  cases h : s.schState <;> simp [State.unscriptedEdge, Edge.quiet, h]

/-- Past the script the turn alternates in PENDING. -/
theorem unscriptedEdge_wakeTurn_pending {s : State} (h : s.schState = .pending) :
    s.unscriptedEdge.wakeTurn = !s.wakeTurn := by
  simp [State.unscriptedEdge, h]

/-- Past the script WAIT_TX keeps the turn. -/
theorem unscriptedEdge_wakeTurn_waitTx {s : State} (h : s.schState = .waitTx) :
    s.unscriptedEdge.wakeTurn = s.wakeTurn := by
  simp [State.unscriptedEdge, h]

/-- In WAIT_TX the coming edge is one of `script`, or it brings the radio's answer. -/
theorem comingEdge_waitTx {s : State} (h : s.schState = .waitTx) :
    s.comingEdge.txAck = true ∨ s.script ≠ [] := by
  cases hs : s.script with
  | nil => simp [State.comingEdge, hs, h]
  | cons e es => simp

/-! ### Errors -/

theorem setErrBit_keeps {err : BitVec 4} {c : ErrCause} {k : Nat} (h : err.getLsbD k = true) :
    (setErrBit err c).getLsbD k = true := by
  simp [setErrBit, h]

theorem setErrBit_sets (err : BitVec 4) (c : ErrCause) : (setErrBit err c).getLsbD c.code = true := by
  cases c <;> simp [setErrBit, ErrCause.code]

/-! ### Streams -/

theorem pushSeq_length {n : Nat} {seq : List Pattern} (hn : 1 ≤ n) (h : seq.length ≤ n) (p : Pattern) :
    (pushSeq n seq p).length = min (seq.length + 1) n := by
  unfold pushSeq
  split <;> simp <;> omega

theorem pushSeq_getLast (n : Nat) (seq : List Pattern) (p : Pattern) :
    (pushSeq n seq p).getLast? = some p := by
  unfold pushSeq
  split <;> simp

theorem mem_pushSeq {n : Nat} {seq : List Pattern} {p q : Pattern} (h : q ∈ pushSeq n seq p) : q ∈ seq ∨ q = p := by
  unfold pushSeq at h
  split at h
  · exact (List.mem_append.1 h).imp List.mem_of_mem_tail List.mem_singleton.1
  · exact (List.mem_append.1 h).imp_right List.mem_singleton.1

theorem streamOk_nil (n : Nat) : streamOk n [] := by simp [streamOk]

theorem streamOk_push {n : Nat} {seq : List Pattern} {p : Pattern} (hn : 1 ≤ n) (h : streamOk n seq)
    (hp : isFinite p = true) : streamOk n (pushSeq n seq p) := by
  refine ⟨by rw [pushSeq_length hn h.1]; omega, fun q hq => ?_⟩
  obtain hq | rfl := mem_pushSeq hq
  · exact h.2 q hq
  · exact hp

/-! ### The motion count -/

theorem countMax_lt (b : Build) : countMax b < 2 ^ 16 := by
  have := Nat.pow_le_pow_right (n := 2) (by decide) (Nat.min_le_right b.countW 16)
  unfold countMax
  omega

theorem bumpCount_toNat (b : Build) (c : BitVec 16) : (bumpCount b c).toNat = min (c.toNat + 1) (countMax b) := by
  have := countMax_lt b
  simp only [bumpCount, BitVec.toNat_ofNat]
  omega

end Sys2Proof.Machine
end

