-- ==== Sys2Proof/Laws/Exec.lean ====
section
/-! SUPPORT. One inversion lemma per operation: if it answers a next state, it was not enabled and changed nothing, or
it did what the lemma says. -/

namespace Sys2Proof.Machine

variable {s t : State}

theorem execTempUpdate_next {p : Pattern} (h : exec (.tempUpdate p) s = .next t) :
    t = s ∨ (isFinite p = true ∧ t = s.setTs (pushSeq s.build.n s.ts p)) ∨
      t = s.raiseError .nonfiniteSample := by
  obtain h | ⟨-, -, h⟩ := whenAccepted_next h
  · exact .inl h
  · split at h <;> cases h
    · exact .inr (.inl ⟨‹_›, rfl⟩)
    · exact .inr (.inr rfl)

theorem execTempError_next (h : exec .tempError s = .next t) : t = s ∨ t = s.setTs [] := by
  obtain h | ⟨-, -, h⟩ := whenAccepted_next h
  · exact .inl h
  · cases h
    exact .inr rfl

theorem execVoltUpdate_next {p : Pattern} (h : exec (.voltUpdate p) s = .next t) :
    t = s ∨ (isFinite p = true ∧ t = s.setVs (pushSeq s.build.n s.vs p)) ∨
      t = s.raiseError .nonfiniteSample := by
  obtain h | ⟨-, -, h⟩ := whenAccepted_next h
  · exact .inl h
  · split at h <;> cases h
    · exact .inr (.inl ⟨‹_›, rfl⟩)
    · exact .inr (.inr rfl)

theorem execVoltError_next (h : exec .voltError s = .next t) : t = s ∨ t = s.setVs [] := by
  obtain h | ⟨-, -, h⟩ := whenAccepted_next h
  · exact .inl h
  · cases h
    exact .inr rfl

theorem execMotion_next (h : exec .motion s = .next t) :
    t = s ∨ t = s.setCount (bumpCount s.build s.mcCount) ∨
      (s.mcNext ≤ s.now ∧ s.now + s.build.debounceMs < 2 ^ s.build.tickW ∧
        t = (s.setCount (bumpCount s.build s.mcCount)).setMcNext (s.now + s.build.debounceMs)) := by
  obtain h | ⟨-, -, h⟩ := whenAccepted_next h
  · exact .inl h
  · split at h
    · split at h
      · cases h
        exact .inl rfl
      · obtain ⟨hf, rfl⟩ := withTime_next h
        exact .inr (.inr ⟨Nat.not_lt.1 ‹_›, hf, rfl⟩)
    · cases h
      exact .inr (.inl rfl)

theorem execButton_next (h : exec .button s = .next t) :
    t = s ∨ (s.schState = .pending ∧ s.now + s.build.buttonOffsetMs < 2 ^ s.build.tickW ∧
      t = s.planAbsolute (s.now + s.build.buttonOffsetMs)) := by
  obtain h | ⟨hp, -, h⟩ := whenAccepted_next h
  · exact .inl h
  · exact .inr ⟨hp, withTime_next h⟩

theorem execInit_next (h : exec .init s = .next t) :
    t = s ∨ (s.schState = .idle ∧ s.rst = false ∧ s.now + s.build.firstDelayMs < 2 ^ s.build.tickW ∧
      t = (s.setSch .pending).planAbsolute (s.now + s.build.firstDelayMs)) := by
  simp only [exec, execInit] at h
  split at h
  · obtain ⟨hi, hr⟩ := ‹_ ∧ _›
    exact .inr ⟨hi, hr, withTime_next h⟩
  · cases h
    exact .inl rfl

theorem execWake_next (h : exec .wake s = .next t) :
    t = s ∨ (s.schState = .pending ∧ s.wakeAt ≤ s.now ∧ s.rst = false ∧
      t = ((s.setFrame (reportFrame s)).setSch .waitTx).emitTxRequest (reportFrame s)) := by
  simp only [exec, execWake, Bool.and_eq_true, Bool.not_eq_true', wakeDue_iff] at h
  split at h
  · obtain ⟨⟨hp, hw⟩, hr⟩ := ‹(_ ∧ _) ∧ _›
    cases h
    exact .inr ⟨hp, hw, hr, rfl⟩
  · cases h
    exact .inl rfl

theorem execTxComplete_next {ok : Bool} (h : exec (.txComplete ok) s = .next t) :
    t = s ∨ (s.rst = false ∧ s.schState ≠ .waitTx ∧ t = s.raiseError .spuriousAck) ∨
      (s.rst = false ∧ s.schState = .waitTx ∧ ok = true ∧ s.wakeAt + s.build.successMs < 2 ^ s.build.tickW ∧
        t = (s.setSch .pending).mcReset.emitLedPulse.planAbsolute (s.wakeAt + s.build.successMs)) ∨
      (s.rst = false ∧ s.schState = .waitTx ∧ ok = false ∧ s.wakeAt + s.build.retryMs < 2 ^ s.build.tickW ∧
        t = (s.setSch .pending).planAbsolute (s.wakeAt + s.build.retryMs)) := by
  simp only [exec, execTxComplete] at h
  split at h
  · cases h
    exact .inl rfl
  · have hr : s.rst = false := Bool.eq_false_iff.2 ‹_›
    split at h
    · have hw : s.schState = .waitTx := ‹_›
      split at h
      · exact .inr (.inr (.inl ⟨hr, hw, ‹_›, withTime_next h⟩))
      · exact .inr (.inr (.inr ⟨hr, hw, Bool.eq_false_iff.2 ‹_›, withTime_next h⟩))
    · cases h
      exact .inr (.inl ⟨hr, ‹_›, rfl⟩)

theorem execReset_next (h : exec .reset s = .next t) : t = s.resetRegisters := by
  cases h
  rfl

end Sys2Proof.Machine
end

