-- ==== Sys2Proof/Laws/Numbers.lean ====
section
/-! SUPPORT. Small facts about rounding: integers are fixed by HALF_EVEN, and a magnitude is less than 2^24 units in its
last place. -/

namespace Sys2Proof.Machine

theorem roundHalfEven_intCast (z : Int) : roundHalfEven (z : Rat) = z := by
  simp [roundHalfEven]

/-- HALF_EVEN gives the floor or the next integer. -/
theorem roundHalfEven_cases (x : Rat) : roundHalfEven x = ⌊x⌋ ∨ roundHalfEven x = ⌊x⌋ + 1 := by
  simp only [roundHalfEven]
  split_ifs <;> simp

theorem ulp32_pos (a : Rat) : 0 < ulp32 a := by
  unfold ulp32
  positivity

/-- The significand of a binary32 magnitude lies below 2^24 (00_scope.md R13). -/
theorem div_ulp32_lt (a : Rat) : a / ulp32 a < 2 ^ 24 := by
  rw [div_lt_iff₀ (ulp32_pos a)]
  have hl : a < (2 : Rat) ^ (Int.log 2 a + 1) := by exact_mod_cast Int.lt_zpow_succ_log_self (b := 2) (by decide) a
  refine hl.trans_le ?_
  unfold ulp32
  rw [← zpow_natCast, ← zpow_add₀ (by norm_num)]
  exact zpow_le_zpow_right₀ (by norm_num) (by have := le_max_left (Int.log 2 a) (-126); push_cast; omega)

/-- Above the subnormals the significand is at least 2^23 (00_scope.md R13). -/
theorem le_div_ulp32 {a : Rat} (h : 0 < a) (hn : -126 ≤ Int.log 2 a) : 2 ^ 23 ≤ a / ulp32 a := by
  rw [le_div_iff₀ (ulp32_pos a)]
  have hl : (2 : Rat) ^ Int.log 2 a ≤ a := by exact_mod_cast Int.zpow_log_le_self (b := 2) (by decide) h
  refine le_trans ?_ hl
  unfold ulp32
  rw [← zpow_natCast, ← zpow_add₀ (by norm_num)]
  exact zpow_le_zpow_right₀ (by norm_num) (by rw [max_eq_left hn]; push_cast; omega)

/-- A value that is a whole number of units, and does not overflow, is not changed by rounding. -/
theorem rne32_of_units {q : Rat} {z : Int} (hq : |q| < 2 ^ 128 - 2 ^ 103) (h : |q| = z * ulp32 |q|) :
    rne32 q = .fin q := by
  by_cases h0 : q = 0
  · simp [rne32, h0]
  · rw [rne32, if_neg h0, if_neg (not_le.2 hq)]
    have hz : |q| / ulp32 |q| = z := by rw [div_eq_iff (ulp32_pos _).ne']; exact h
    rw [hz, roundHalfEven_intCast]
    congr 1
    rw [mul_assoc, ← h]
    unfold ratSign
    split
    · rw [abs_of_neg ‹_›]; simp
    · rw [abs_of_nonneg (not_lt.1 ‹_›)]; simp

end Sys2Proof.Machine
end

