-- ==== Sys2Proof/Laws/PerInstr.lean ====
section
/-! SUPPORT. Laws about every operation as syntax, one lemma per constructor. -/

namespace Sys2Proof.Laws

/-- The OPC value of a command in spec/opcode_table.json. -/
def tableOpcode : Instr → Option Nat
  | .tempUpdate _ => some 0x01
  | .tempError => some 0x02
  | .voltUpdate _ => some 0x03
  | .voltError => some 0x04
  | .motion => some 0x05
  | .button => some 0x06
  | .init => none
  | .wake => none
  | .txComplete _ => none
  | .reset => none

namespace OpcodeRow

/-- The command word lies in the instruction's own row of spec/opcode_table.json: bits 39..32 are the row's opcode,
and there is a word exactly where the row has a width. -/
def Statement (i : Instr) : Prop := (encode i).map (fun w => w.toNat / 2 ^ 32) = tableOpcode i

/-- The high byte of a word assembled from an opcode and a payload. -/
theorem commandWord_high (opc : BitVec 8) (p : BitVec 32) : (commandWord opc p).toNat / 2 ^ 32 = opc.toNat := by
  rw [commandWord_toNat]
  omega

theorem tempUpdate (p : Pattern) : Statement (.tempUpdate p) := congrArg some (commandWord_high 0x01#8 p)

theorem tempError : Statement .tempError := congrArg some (commandWord_high 0x02#8 0#32)

theorem voltUpdate (p : Pattern) : Statement (.voltUpdate p) := congrArg some (commandWord_high 0x03#8 p)

theorem voltError : Statement .voltError := congrArg some (commandWord_high 0x04#8 0#32)

theorem motion : Statement .motion := congrArg some (commandWord_high 0x05#8 0#32)

theorem button : Statement .button := congrArg some (commandWord_high 0x06#8 0#32)

theorem init : Statement .init := rfl

theorem wake : Statement .wake := rfl

theorem txComplete (ok : Bool) : Statement (.txComplete ok) := rfl

theorem reset : Statement .reset := rfl

end OpcodeRow

end Sys2Proof.Laws
end

