-- ==== Sys2Proof/Laws/Step.lean ====
section
/-! SUPPORT. What one step can do: the move at each kind of edge, and the inversion of `step`. -/

namespace Sys2Proof.Machine

variable {s s' : State}

/-! ### The move of an edge -/

theorem pick_reset (h : s.rst = true) : pick s = some (.inl .reset) := by
  simp [pick, h]

theorem pick_ack (hr : s.rst = false) (ha : s.txAck = true) : pick s = some (.inl (.txComplete s.txOk)) := by
  simp [pick, hr, ha]

theorem pick_init (hr : s.rst = false) (ha : s.txAck = false) (h : s.schState = .idle) :
    pick s = some (.inl .init) := by
  simp [pick, hr, ha, h]

theorem pick_wake (hr : s.rst = false) (ha : s.txAck = false) (h : s.schState = .pending)
    (hw : s.wakeAt ≤ s.now) (ht : s.wakeTurn = true) : pick s = some (.inl .wake) := by
  simp [pick, hr, ha, h, (wakeDue_iff s).2 ⟨h, hw⟩, ht]

theorem pick_command (hr : s.rst = false) (ha : s.txAck = false) (h : s.schState = .pending)
    (hw : s.wakeTurn = false ∨ s.now < s.wakeAt) : pick s = s.cmdQueue.head?.map .inr := by
  have : (s.wakeDue && s.wakeTurn) = false := by
    obtain h | h := hw
    · simp [h]
    · simp [State.wakeDue, Nat.not_le.2 h]
  simp [pick, hr, ha, h, this]

theorem pick_waitTx (hr : s.rst = false) (ha : s.txAck = false) (h : s.schState = .waitTx) : pick s = none := by
  simp [pick, hr, ha, h]

/-- Every edge is one of seven, and the move follows. -/
theorem pick_cases (s : State) :
    (s.rst = true ∧ pick s = some (.inl .reset)) ∨
    (s.rst = false ∧ s.txAck = true ∧ pick s = some (.inl (.txComplete s.txOk))) ∨
    (s.rst = false ∧ s.txAck = false ∧ s.schState = .idle ∧ pick s = some (.inl .init)) ∨
    (s.rst = false ∧ s.txAck = false ∧ s.schState = .pending ∧ s.wakeAt ≤ s.now ∧ s.wakeTurn = true ∧
      pick s = some (.inl .wake)) ∨
    (s.rst = false ∧ s.txAck = false ∧ s.schState = .pending ∧ (s.wakeTurn = false ∨ s.now < s.wakeAt) ∧
      ∃ w q, s.cmdQueue = w :: q ∧ pick s = some (.inr w)) ∨
    (s.rst = false ∧ s.txAck = false ∧ s.schState = .pending ∧ (s.wakeTurn = false ∨ s.now < s.wakeAt) ∧
      s.cmdQueue = [] ∧ pick s = none) ∨
    (s.rst = false ∧ s.txAck = false ∧ s.schState = .waitTx ∧ pick s = none) := by
  cases hr : s.rst
  · cases ha : s.txAck
    · cases h : s.schState
      · simp [pick_init hr ha h]
      · by_cases hw : s.wakeAt ≤ s.now ∧ s.wakeTurn = true
        · simp [pick_wake hr ha h hw.1 hw.2, hw.1, hw.2]
        · have hc : s.wakeTurn = false ∨ s.now < s.wakeAt := by
            rw [← Bool.not_eq_true, ← Nat.not_le]
            tauto
          have hp := pick_command hr ha h hc
          cases hq : s.cmdQueue <;> simp [hq] at hp <;> simp [hp, hc]
      · simp [pick_waitTx hr ha h]
    · simp [pick_ack hr ha]
  · simp [pick_reset hr]

/-! ### The step -/

/-- A step that answers a next state performed its move and settled it. -/
theorem step_next (h : step s = .next s') :
    ∃ t, perform (pick s) s.beginStep = .next t ∧ s' = settle s t := by
  unfold step at h
  split at h
  · cases h
    exact ⟨_, ‹_›, rfl⟩
  · cases h
  · cases h

theorem step_of_perform {t : State} (h : perform (pick s) s.beginStep = .next t) :
    step s = .next (settle s t) := by
  simp [step, h]

/-- A step is refused only where its move is. -/
theorem step_refused {r : Refusal} (h : step s = .refused r) : perform (pick s) s.beginStep = .refused r := by
  unfold step at h
  split at h
  · cases h
  · cases h
  · cases h
    exact ‹_›

theorem acceptWord_ok {w : CmdWord} {i : Instr} (h : decode w = .ok i) (s : State) :
    acceptWord w s = exec i s := by
  simp [acceptWord, h]

theorem acceptWord_error {w : CmdWord} {e : DecodeError} (h : decode w = .error e) (s : State) :
    acceptWord w s = .next (s.raiseError (causeOf e)) := by
  simp [acceptWord, h]

/-- What the settled state is, by the kind of edge. -/
theorem settle_cases (s t : State) :
    (s.rst = false ∧ s.txAck = true ∧ s.schState ≠ .waitTx ∧ settle s t = t.dropAck) ∨
    ((∃ w, pick s = some (.inr w)) ∧ settle s t = t.dropCommand.nextEdge) ∨
    ((∀ w, pick s ≠ some (.inr w)) ∧ ¬(s.rst = false ∧ s.txAck = true ∧ s.schState ≠ .waitTx) ∧
      settle s t = t.nextEdge) := by
  by_cases hs : s.rst = false ∧ s.txAck = true ∧ s.schState ≠ .waitTx
  · exact .inl ⟨hs.1, hs.2.1, hs.2.2, by simp [settle, State.ackIsSpurious, hs]⟩
  · have hn : s.ackIsSpurious = false := by
      simp only [State.ackIsSpurious, Bool.and_eq_false_iff, Bool.not_eq_false', decide_eq_false_iff_not]
      by_contra hc
      simp only [not_or, Bool.not_eq_true, Bool.not_eq_false, not_not] at hc
      exact hs ⟨hc.1.1, hc.1.2, hc.2⟩
    cases hp : pick s with
    | none => exact .inr (.inr ⟨by simp, hs, by simp [settle, hn, hp]⟩)
    | some m =>
      cases m with
      | inl i => exact .inr (.inr ⟨by simp, hs, by simp [settle, hn, hp]⟩)
      | inr w => exact .inr (.inl ⟨⟨w, rfl⟩, by simp [settle, hn, hp]⟩)

/-! ### Everything one step can do -/

@[simp] theorem reportFrame_beginStep (s : State) : reportFrame s.beginStep = reportFrame s := rfl

@[simp] theorem reportFrame_nextEdge (s : State) : reportFrame s.nextEdge = reportFrame s := rfl

/-- What accepting a word can do to the state `b` of a block in PENDING with `rst` low. -/
inductive CommandEffect (b : State) (w : CmdWord) : State → Prop
  | error (e : DecodeError) (hd : decode w = .error e) : CommandEffect b w (b.raiseError (causeOf e))
  | tempPush (p : Pattern) (hd : decode w = .ok (.tempUpdate p)) (hp : isFinite p = true) :
      CommandEffect b w (b.setTs (pushSeq b.build.n b.ts p))
  | tempNonfinite (p : Pattern) (hd : decode w = .ok (.tempUpdate p)) (hp : isFinite p = false) :
      CommandEffect b w (b.raiseError .nonfiniteSample)
  | tempClear (hd : decode w = .ok .tempError) : CommandEffect b w (b.setTs [])
  | voltPush (p : Pattern) (hd : decode w = .ok (.voltUpdate p)) (hp : isFinite p = true) :
      CommandEffect b w (b.setVs (pushSeq b.build.n b.vs p))
  | voltNonfinite (p : Pattern) (hd : decode w = .ok (.voltUpdate p)) (hp : isFinite p = false) :
      CommandEffect b w (b.raiseError .nonfiniteSample)
  | voltClear (hd : decode w = .ok .voltError) : CommandEffect b w (b.setVs [])
  | motionDebounced (hd : decode w = .ok .motion) (he : b.build.debounceEn = true) (hn : b.now < b.mcNext) :
      CommandEffect b w b
  | motionCounted (hd : decode w = .ok .motion) (he : b.build.debounceEn = true) (hn : b.mcNext ≤ b.now)
      (hf : b.now + b.build.debounceMs < 2 ^ b.build.tickW) :
      CommandEffect b w ((b.setCount (bumpCount b.build b.mcCount)).setMcNext (b.now + b.build.debounceMs))
  | motionUngated (hd : decode w = .ok .motion) (he : b.build.debounceEn = false) :
      CommandEffect b w (b.setCount (bumpCount b.build b.mcCount))
  | button (hd : decode w = .ok .button) (hf : b.now + b.build.buttonOffsetMs < 2 ^ b.build.tickW) :
      CommandEffect b w (b.planAbsolute (b.now + b.build.buttonOffsetMs))

/-- No decoded command is one of the four operations without a word. -/
theorem decode_isCommand {w : CmdWord} {i : Instr} (h : decode w = .ok i) : i.wf = true := by
  simp only [decode] at h
  split_ifs at h <;> simp only [decodeBare_ok_iff, Except.ok.injEq] at h
  all_goals first | (subst h; rfl) | (obtain ⟨-, rfl⟩ := h; rfl)

/-- An accepted word that answers a next state has one of these effects. -/
theorem acceptWord_effect {b t : State} {w : CmdWord} (hp : b.schState = .pending) (hr : b.rst = false)
    (h : acceptWord w b = .next t) : CommandEffect b w t := by
  cases hd : decode w with
  | error e =>
    rw [acceptWord_error hd] at h
    cases h
    exact .error e hd
  | ok i =>
    rw [acceptWord_ok hd] at h
    have hw := decode_isCommand hd
    cases i <;> simp only [exec, execTempUpdate, execTempError, execVoltUpdate, execVoltError, execMotion,
      execButton, planNow, whenAccepted_of_ready hp hr, Instr.wf, reduceCtorEq] at h hw
    case tempUpdate p =>
      cases hf : isFinite p <;> simp only [hf, if_true, Bool.false_eq_true, if_false] at h <;> cases h
      · exact .tempNonfinite p hd hf
      · exact .tempPush p hd hf
    case tempError =>
      cases h
      exact .tempClear hd
    case voltUpdate p =>
      cases hf : isFinite p <;> simp only [hf, if_true, Bool.false_eq_true, if_false] at h <;> cases h
      · exact .voltNonfinite p hd hf
      · exact .voltPush p hd hf
    case voltError =>
      cases h
      exact .voltClear hd
    case motion =>
      cases he : b.build.debounceEn <;> simp only [he, if_true, Bool.false_eq_true, if_false] at h
      · cases h
        exact .motionUngated hd he
      · split at h
        · cases h
          exact .motionDebounced hd he ‹_›
        · obtain ⟨hf, rfl⟩ := withTime_next h
          exact .motionCounted hd he (Nat.not_lt.1 ‹_›) hf
    case button =>
      obtain ⟨hf, rfl⟩ := withTime_next h
      exact .button hd hf

/-- What one step can do: the state it answers, for each kind of edge. -/
inductive StepEffect (s : State) : State → Prop
  | reset (hr : s.rst = true) : StepEffect s s.beginStep.resetRegisters.nextEdge
  | spuriousAck (hr : s.rst = false) (ha : s.txAck = true) (hs : s.schState ≠ .waitTx) :
      StepEffect s (s.beginStep.raiseError .spuriousAck).dropAck
  | success (hr : s.rst = false) (ha : s.txAck = true) (hs : s.schState = .waitTx) (ho : s.txOk = true)
      (hf : s.wakeAt + s.build.successMs < 2 ^ s.build.tickW) :
      StepEffect s
        ((s.beginStep.setSch .pending).mcReset.emitLedPulse.planAbsolute (s.wakeAt + s.build.successMs)).nextEdge
  | failure (hr : s.rst = false) (ha : s.txAck = true) (hs : s.schState = .waitTx) (ho : s.txOk = false)
      (hf : s.wakeAt + s.build.retryMs < 2 ^ s.build.tickW) :
      StepEffect s ((s.beginStep.setSch .pending).planAbsolute (s.wakeAt + s.build.retryMs)).nextEdge
  | init (hr : s.rst = false) (ha : s.txAck = false) (hs : s.schState = .idle)
      (hf : s.now + s.build.firstDelayMs < 2 ^ s.build.tickW) :
      StepEffect s ((s.beginStep.setSch .pending).planAbsolute (s.now + s.build.firstDelayMs)).nextEdge
  | wake (hr : s.rst = false) (ha : s.txAck = false) (hs : s.schState = .pending) (hw : s.wakeAt ≤ s.now)
      (ht : s.wakeTurn = true) :
      StepEffect s
        (((s.beginStep.setFrame (reportFrame s)).setSch .waitTx).emitTxRequest (reportFrame s)).nextEdge
  | command (hr : s.rst = false) (ha : s.txAck = false) (hs : s.schState = .pending)
      (hw : s.wakeTurn = false ∨ s.now < s.wakeAt) (w : CmdWord) (q : List CmdWord) (hq : s.cmdQueue = w :: q)
      (t : State) (ht : CommandEffect s.beginStep w t) : StepEffect s t.dropCommand.nextEdge
  | wait (hr : s.rst = false) (ha : s.txAck = false)
      (hs : s.schState = .waitTx ∨
        (s.schState = .pending ∧ (s.wakeTurn = false ∨ s.now < s.wakeAt) ∧ s.cmdQueue = [])) : StepEffect s s.beginStep.nextEdge

/-- Every step that answers a next state has one of these effects. -/
theorem step_effect (h : step s = .next s') : StepEffect s s' := by
  obtain ⟨t, hp, rfl⟩ := step_next h
  obtain ⟨hr, hk⟩ | ⟨hr, ha, hk⟩ | ⟨hr, ha, hs, hk⟩ | ⟨hr, ha, hs, hw, ht, hk⟩ | ⟨hr, ha, hs, hw, w, q, hq, hk⟩ |
    ⟨hr, ha, hs, hw, hq, hk⟩ | ⟨hr, ha, hs, hk⟩ := pick_cases s <;>
    simp only [hk, perform] at hp <;> simp only [settle, hk, State.ackIsSpurious, hr, Bool.not_false, Bool.not_true]
  · cases hp
    exact .reset hr
  · by_cases hs : s.schState = .waitTx
    · have hb : s.beginStep.schState = .waitTx := hs
      obtain rfl | ⟨-, hn, -⟩ | ⟨-, -, ho, hf, rfl⟩ | ⟨-, -, ho, hf, rfl⟩ := execTxComplete_next hp
      · exfalso
        simp only [exec, execTxComplete, State.beginStep_rst, hr, Bool.false_eq_true, if_false, hb, if_true] at hp
        split at hp
        · exact absurd (congrArg State.schState (withTime_next hp).2) (by simp [hs])
        · exact absurd (congrArg State.schState (withTime_next hp).2) (by simp [hs])
      · exact absurd hb hn
      · simpa [ha, hs] using StepEffect.success hr ha hs ho hf
      · simpa [ha, hs] using StepEffect.failure hr ha hs ho hf
    · simp only [exec, execTxComplete, State.beginStep_rst, hr, State.beginStep_schState, hs, Bool.false_eq_true,
        if_false] at hp
      cases hp
      simpa [ha, hs] using StepEffect.spuriousAck hr ha hs
  · simp only [exec, execInit, State.beginStep_schState, State.beginStep_rst, hs, hr, and_self, if_true] at hp
    obtain ⟨hf, rfl⟩ := withTime_next hp
    simpa [ha] using StepEffect.init hr ha hs hf
  · simp only [exec, execWake, State.wakeDue, State.beginStep_schState, State.beginStep_rst, State.beginStep_wakeAt,
      State.beginStep_now, hs, hr, hw, and_self, decide_true, Bool.not_false, Bool.and_self, if_true] at hp
    cases hp
    simpa [ha] using StepEffect.wake hr ha hs hw ht
  · simpa [ha] using StepEffect.command hr ha hs hw w q hq t (acceptWord_effect hs hr hp)
  · cases hp
    simpa [ha] using StepEffect.wait hr ha (.inr ⟨hs, hw, hq⟩)
  · cases hp
    simpa [ha] using StepEffect.wait hr ha (.inl hs)

end Sys2Proof.Machine
end

