-- ==== Sys2Proof/Tests/Slice0.lean ====
section
/-! SUPPORT. Small tests, their expected results taken from spec/ (the examples of the rules and the vectors of
95_test_vectors.md), and for each statement with hypotheses a witness that meets them. -/

namespace Sys2Proof.Tests

open Sys2Proof.Machine

/-- S0 of 95_test_vectors.md: after RESET and INIT at NOW = 0. -/
def s0 : State := { State.reset with schState := .pending, wakeAt := 10000 }

/-- WAIT_TX with WAKE_AT = 10000, as in V-W5, V-W6 and V-T6. -/
def waiting : State := { s0 with schState := .waitTx, mcCount := 7#16, now := 12345 }

/-- S0 with the given words on the command port. -/
def offering (ws : List CmdWord) : State := { s0 with cmdQueue := ws }

/-- The next state, where there is one. -/
def after : Result → Option State
  | .next t => some t
  | .fault _ => none
  | .refused _ => none

/-- The answer is `refuse(TimeOverflow)`. -/
def overflows : Result → Bool
  | .refused .timeOverflow => true
  | _ => false

/-- The frame of 42_frame_encoder.md for averages given as patterns. -/
def frameOf (va ta : Option Pattern) (c : BitVec 16) : Frame :=
  encodeFrame Build.standard (va.map fun p => .fin (val32 p)) (ta.map fun p => .fin (val32 p)) c

/-! ### Well-formedness: each check refuses an ill-formed term -/

theorem test_wf_init : Instr.wf .init = false := by decide
theorem test_wf_wake : Instr.wf .wake = false := by decide
theorem test_wf_txComplete : Instr.wf (.txComplete true) = false := by decide
theorem test_wf_reset : Instr.wf .reset = false := by decide
theorem test_wf_noCapacity : Build.wf { Build.standard with n := 0 } = false := by decide
theorem test_wf_tooLargeForStatus : Build.wf { Build.standard with n := 16 } = false := by decide
theorem test_wf_numStreams : Build.wf { Build.standard with numStreams := 3 } = false := by decide
theorem test_wf_countW : Build.wf { Build.standard with countW := 8 } = false := by decide
theorem test_wf_frameBytes : Build.wf { Build.standard with frameBytes := 4 } = false := by decide
theorem test_wf_tickUnit : Build.wf { Build.standard with tickUnitMs := 10 } = false := by decide
theorem test_wf_standard : Build.standard.wf = true := by decide

/-! ### Decoding, the words written from 30_encoding.md R72 and R74: opcode byte, then payload -/

theorem test_decode_tempUpdate :
    decode (0b00000001_01000001_10101010_00000000_00000000#40) = .ok (.tempUpdate 0x41AA0000#32) := by decide
theorem test_decode_tempError :
    decode (0b00000010_00000000_00000000_00000000_00000000#40) = .ok .tempError := by decide
theorem test_decode_voltUpdate :
    decode (0b00000011_01000000_01101010_11100001_01001000#40) = .ok (.voltUpdate 0x406AE148#32) := by decide
theorem test_decode_voltError :
    decode (0b00000100_00000000_00000000_00000000_00000000#40) = .ok .voltError := by decide
theorem test_decode_motion :
    decode (0b00000101_00000000_00000000_00000000_00000000#40) = .ok .motion := by decide
theorem test_decode_button :
    decode (0b00000110_00000000_00000000_00000000_00000000#40) = .ok .button := by decide
theorem test_decode_illegal : decode 0x0000000000#40 = .error .illegalOpcode ∧
    decode 0x0700000000#40 = .error .illegalOpcode ∧ decode 0xFF12345678#40 = .error .illegalOpcode := by decide
theorem test_decode_reserved : decode 0x0200000001#40 = .error .reservedPayload ∧
    decode 0x0500000001#40 = .error .reservedPayload ∧ decode 0x0600000002#40 = .error .reservedPayload := by decide
theorem test_decodeTableWord : decodeTableWord 40 0x0500000000 = some .motion ∧
    decodeTableWord 40 0x0141AA0000 = some (.tempUpdate 0x41AA0000#32) ∧ decodeTableWord 0 0 = none := by decide

/-- R77: the bits of MOTION's word in 35 or in 48 bits are no command. -/
theorem test_decodeTableWord_length : decodeTableWord 35 0x0500000000 = none ∧
    decodeTableWord 48 0x0500000000 = none := by decide

/-- The next step after reset runs the fetched word (MOTION at NOW = 0, V-M1). -/
theorem test_withFetchWord :
    (after (step (State.reset.withFetchWord 40 0x0500000000))).map (fun t => (t.mcCount, t.mcNext)) =
      some (1#16, 2000) := by decide

/-! ### One step of each operation -/

/-- V-S6: the oldest of eight samples is evicted. -/
theorem test_tempUpdate_evicts :
    (after (exec (.tempUpdate 9#32) { s0 with ts := [1, 2, 3, 4, 5, 6, 7, 8] })).map State.ts =
      some [2, 3, 4, 5, 6, 7, 8, 9] := by decide
/-- V-S12: a NaN sets ERR[2] and is not stored. -/
theorem test_tempUpdate_nan :
    (after (step (offering [0x017FC00000#40]))).map (fun t => (t.err, t.ts)) = some (0b0100#4, []) := by decide
/-- V-S3. -/
theorem test_tempError :
    (after (exec .tempError { s0 with ts := [0x41AA0000#32], vs := [5#32] })).map (fun t => (t.ts, t.vs)) =
      some ([], [5#32]) := by decide
/-- V-S2. -/
theorem test_voltUpdate :
    (after (step (offering [0x03406AE148#40]))).map (fun t => (t.vs, t.status)) =
      some ([0x406AE148#32], 0x00001001#32) := by decide
/-- R108's example. -/
theorem test_voltError :
    (after (exec .voltError { s0 with vs := [0x406AE148#32] })).map State.vs = some [] := by decide
/-- V-M2 and V-M3: the debounce test is strict. -/
theorem test_motion_debounce :
    (after (exec .motion { s0 with mcCount := 1#16, mcNext := 2000, now := 1999 })).map State.mcCount = some 1#16 ∧
    (after (exec .motion { s0 with mcCount := 1#16, mcNext := 2000, now := 2000 })).map State.mcNext =
      some 4000 := by decide
/-- V-M5 and V-M10. -/
theorem test_motion_saturates :
    (after (exec .motion { s0 with mcCount := 65535#16, mcNext := 10, now := 100 })).map
      (fun t => (t.mcCount, t.mcNext)) = some (65535#16, 2100) ∧
    overflows (exec .motion { s0 with mcNext := 2 ^ 64 - 1000, now := 2 ^ 64 - 1000 }) = true := by decide
/-- V-R5. -/
theorem test_button :
    (after (exec .button { s0 with wakeAt := 900000, now := 42000 })).map State.wakeAt = some 42000 := by decide
/-- V-R2, V-R9 and V-R10. -/
theorem test_init :
    (after (exec .init { State.reset with now := 5000 })).map State.wakeAt = some 15000 ∧
    overflows (exec .init { State.reset with now := 2 ^ 64 - 5000 }) = true ∧
    (after (exec .init { State.reset with now := 2 ^ 64 - 10001 })).map State.wakeAt = some (2 ^ 64 - 1) := by decide
/-- V-T1. -/
theorem test_wake :
    (after (exec .wake { s0 with
      vs := [0x406AE148#32], ts := [0x41BB999A#32], mcCount := 300#16, now := 10000 })).map
      (fun t => (t.txFrame, t.status)) = some (0x2500EA012C#40, 0x012C1102#32) := by decide +kernel
/-- V-R3: WAKE is not enabled at NOW = 9999. -/
theorem test_wake_early : (after (step { s0 with now := 9999 })).map State.schState = some .pending := by decide
/-- V-W5. -/
theorem test_txComplete_ok :
    (after (step { waiting with txAck := true, txOk := true })).map
      (fun t => (t.schState, t.mcCount, t.wakeAt, t.ledPulse)) = some (.pending, 0#16, 910000, true) := by decide
/-- V-W6. -/
theorem test_txComplete_fail :
    (after (step { waiting with txAck := true })).map (fun t => (t.schState, t.mcCount, t.wakeAt, t.ledPulse)) =
      some (.pending, 7#16, 11000, false) := by decide
/-- V-X5 and V-X7: an ack at the edge of a due WAKE is spurious, and the WAKE follows. -/
theorem test_spuriousAck :
    (after (step { s0 with txAck := true, txOk := true })).map State.status = some 0x00000081#32 ∧
    ((after (step { s0 with now := 10000, txAck := true, txOk := true })).bind fun t => after (step t)).map
      (fun t => (t.status, t.txFrame)) = some (0x00000082#32, 0xFF7FFF0000#40) := by decide +kernel
/-- V-I1, from the state of V-I2. -/
theorem test_reset :
    (after (step { waiting with rst := true, err := 0b1111#4, txFrame := 0xFFFFFE0001#40, txAck := true })).map
      (fun t => (t.status, t.wakeAt, t.txFrame)) = some (0#32, 0, 0#40) := by decide

/-! ### Numbers -/

/-- V-E1 and V-E2, the source's own examples. -/
theorem test_frame_source :
    frameOf (some 0x406AE148#32) (some 0x41BB999A#32) 300#16 = 0x2500EA012C#40 ∧
    frameOf none none 0#16 = 0xFF7FFF0000#40 := by decide +kernel
/-- V-E4 and V-E5, the two sides of the voltage collision. -/
theorem test_frame_voltage :
    frameOf (some 0x41CB3333#32) none 0#16 = 0xFE7FFF0000#40 ∧
    frameOf (some 0x41CB3334#32) none 0#16 = 0xFF7FFF0000#40 := by decide +kernel
/-- V-E7 and V-E15. -/
theorem test_frame_negative :
    frameOf none (some 0xBE800000#32) 0#16 = 0xFFFFFE0000#40 ∧
    frameOf none (some 0xF149F2CA#32) 0#16 = 0xFF80000000#40 := by decide +kernel
/-- V-S9: CR32 and SEQ32 differ. -/
theorem test_average :
    avg .cr32 [0x4B800000#32, 0x3F800000#32, 0x3F800000#32] = some (.fin 5592406) ∧
    avg .seq32 [0x4B800000#32, 0x3F800000#32, 0x3F800000#32] = some (.fin (11184811 / 2)) := by decide +kernel
/-- V-E1's bytes, in the order of R54. -/
theorem test_sentBytes :
    sentBytes Build.standard 0x2500EA012C#40 = [0x25#8, 0x00#8, 0xEA#8, 0x01#8, 0x2C#8] := by decide
/-- A line of P4 with its encoding, and the same with another word. -/
theorem test_trace_encoding :
    readLine "@60 MOTION                [0x0500000000]    ; MC_COUNT 1".toList = some ⟨60, .motion⟩ ∧
    readLine "@60 MOTION [0x0600000000]".toList = none := by decide +kernel
/-- A TIME that does not fit the time bus stands for its greatest value (log entry 16), within R58's width. -/
theorem test_trace_time : ((⟨2 ^ 64 + 5, .motion⟩ : TraceLine).place s0).now = 2 ^ 64 - 1 := by decide
/-- P5: a held press is listed when it is accepted. -/
theorem test_held_output_line :
    heldLine { s0 with now := 9000, cmdQueue := [0x0600000000#40] } = [.accepted 9000 .button] ∧
    (OutLine.accepted 10100 .button).text = "=> @10100 BUTTON accepted".toList := by decide +kernel
/-- Host duty 3: with no script left, the edge after a WAKE brings the radio's answer. -/
theorem test_radio_answers :
    (after (step { s0 with now := 10000 })).map (fun t => (t.schState, t.txAck)) = some (.waitTx, true) := by
  decide +kernel
/-- R186 with RETRY_MS = 0, the WAKE always due: after one failed cycle the turn is the command's. -/
theorem test_command_after_one_cycle :
    (after (step { waiting with
      build := { Build.standard with retryMs := 0 }, txAck := true, cmdQueue := [0x0500000000#40] })).map
      (fun t => (t.wakeDue, t.wakeTurn, pick t)) = some (true, false, some (.inr 0x0500000000#40)) := by decide
/-- R82's example, and a line of program P4. -/
theorem test_trace :
    readLine "@100 VOLT_UPDATE 3.67".toList = some ⟨100, .voltUpdate 0x406AE148#32⟩ ∧
    readLine "@20 RAW 0x0500000001 ; a comment".toList = some ⟨20, .raw 0x0500000001#40⟩ := by decide +kernel
/-- P1 of 95_test_vectors.md: the output line of its WAKE step. -/
theorem test_wake_output_line :
    (OutLine.wake 10000 0x2500EA0003#40).text = "=> @10000 WAKE frame=0x2500EA0003".toList := by decide +kernel

/-! ### Witnesses: the hypotheses of each statement are met together, at the boundaries of its clauses -/

theorem witness_DecodeOfEncodeIsIdentity : Instr.wf (.tempUpdate 0xFFFFFFFF#32) = true ∧ Instr.wf .button = true := by
  decide
theorem witness_EncodeOfDecodeIsIdentity : decode 0x01FFFFFFFF#40 = .ok (.tempUpdate 0xFFFFFFFF#32) := by decide
theorem witness_DecoderFollowsOpcodeMap :
    (0x01FFFFFFFF#40).toNat / 2 ^ 32 = 1 ∧ (0x0300000000#40).toNat / 2 ^ 32 = 3 ∧
    (0x0200000000#40).toNat / 2 ^ 32 = 2 ∧ (0x0200000000#40).toNat % 2 ^ 32 = 0 ∧
    (0x0400000000#40).toNat / 2 ^ 32 = 4 ∧ (0x0500000000#40).toNat / 2 ^ 32 = 5 ∧
    (0x0600000001#40).toNat / 2 ^ 32 = 6 ∧ (0x0600000001#40).toNat % 2 ^ 32 ≠ 0 ∧
    (0x00FFFFFFFF#40).toNat / 2 ^ 32 = 0 ∧ 7 ≤ (0x0700000000#40).toNat / 2 ^ 32 := by decide
theorem witness_StepRunsAcceptedCommand :
    (offering [0x0500000000#40]).schState = .pending ∧ (offering [0x0500000000#40]).rst = false ∧
    (offering [0x0500000000#40]).txAck = false ∧ (offering [0x0500000000#40]).now < 10000 ∧
    decode 0x0500000000#40 = .ok .motion := by decide
theorem witness_StepRunsPortAndInternalOperations :
    ({ waiting with rst := true } : State).rst = true ∧
    (({ waiting with txAck := true } : State).rst = false ∧ ({ waiting with txAck := true } : State).txAck = true ∧
      ({ waiting with txAck := true } : State).schState = .waitTx) ∧
    (State.reset.rst = false ∧ State.reset.txAck = false ∧ State.reset.schState = .idle) ∧
    (({ s0 with now := 10000 } : State).wakeAt ≤ ({ s0 with now := 10000 } : State).now ∧ s0.wakeTurn = true ∧
      s0.schState = .pending ∧ s0.rst = false ∧ s0.txAck = false) := by decide
theorem witness_SpuriousAckPrecedesTheOtherStep :
    ({ s0 with txAck := true } : State).rst = false ∧ ({ s0 with txAck := true } : State).txAck = true ∧
    ({ s0 with txAck := true } : State).schState ≠ .waitTx := by decide
theorem witness_IdleEdgeOnlyWaits :
    (waiting.rst = false ∧ waiting.txAck = false ∧ waiting.schState = .waitTx) ∧
    (s0.rst = false ∧ s0.txAck = false ∧ s0.schState = .pending ∧ s0.cmdQueue = [] ∧ s0.now < s0.wakeAt) ∧
    (({ s0 with now := 10000, wakeTurn := false } : State).wakeTurn = false ∧
      ({ s0 with now := 10000, wakeTurn := false } : State).wakeDue = true) ∧ ∃ t, step waiting = .next t :=
  ⟨by decide, by decide, by decide, _, rfl⟩
theorem witness_IllegalOpcodeSetsErr0 :
    (offering [0x0700000000#40]).cmdQueue = 0x0700000000#40 :: [] ∧ (offering [0x0700000000#40]).schState = .pending ∧
    (offering [0x0700000000#40]).rst = false ∧ (offering [0x0700000000#40]).txAck = false ∧
    (offering [0x0700000000#40]).now < (offering [0x0700000000#40]).wakeAt ∧
    7 ≤ (0x0700000000#40).toNat / 2 ^ 32 := by decide
theorem witness_ReservedPayloadSetsErr1 :
    (offering [0x0200000001#40]).cmdQueue = 0x0200000001#40 :: [] ∧ (offering [0x0200000001#40]).schState = .pending ∧
    (offering [0x0200000001#40]).rst = false ∧ (offering [0x0200000001#40]).txAck = false ∧
    (offering [0x0200000001#40]).now < (offering [0x0200000001#40]).wakeAt ∧
    (0x0200000001#40).toNat / 2 ^ 32 = 2 ∧ (0x0200000001#40).toNat % 2 ^ 32 ≠ 0 := by decide
theorem witness_DueWakeAndCommandGoEitherWay :
    (({ s0 with now := 10000, cmdQueue := [0x0500000000#40] } : State).wakeAt ≤ 10000 ∧ s0.schState = .pending ∧
      s0.rst = false ∧ s0.txAck = false ∧ s0.script = [] ∧ s0.build.buttonOffsetMs = 0 ∧
      ({ s0 with now := 10000 } : State).wakeDue = true) ∧
    (∃ t, step { s0 with script := [Edge.quiet] } = .next t) ∧
    ∃ t, step { s0 with script := [Edge.quiet], txAck := true } = .next t :=
  ⟨by decide, ⟨_, rfl⟩, _, rfl⟩
theorem witness_OperationsNotEnabledAreHeld :
    State.reset.schState ≠ .pending ∧ s0.schState ≠ .idle ∧ s0.now < s0.wakeAt ∧
    ({ s0 with rst := true } : State).rst = true ∧ Instr.wf .motion = true := by decide
theorem witness_TempErrorClearsTemperatureStream : (1#32 : BitVec 32) ≠ 0#32 := by decide
theorem witness_VoltErrorClearsVoltageStream : (0x80000000#32 : BitVec 32) ≠ 0#32 := by decide
theorem witness_WindowsFollowTheirHistories :
    1 ≤ s0.build.n ∧ s0.ts = lastN s0.build.n [] ∧ s0.vs = lastN s0.build.n [] ∧
      ∃ t, step (offering [0x0141AA0000#40]) = .next t :=
  ⟨by decide, rfl, rfl, _, rfl⟩
theorem witness_AverageIgnoresOrder : [1#32, 2#32].Perm [2#32, 1#32] := by decide
theorem witness_AverageLiesBetweenTheSamples :
    ([0x41A00000#32, 0x41A80000#32] : List Pattern) ≠ [] ∧
    ∀ p ∈ ([0x41A00000#32, 0x41A80000#32] : List Pattern),
      isFinite p = true ∧ val32 0x41A00000#32 ≤ val32 p ∧ val32 p ≤ val32 0x41A80000#32 := by
  refine ⟨List.cons_ne_nil _ _, fun p hp => ?_⟩
  obtain rfl | rfl : p = 0x41A00000#32 ∨ p = 0x41A80000#32 := by simpa using hp
  · decide +kernel
  · decide +kernel
theorem witness_ExactSumFitsTheAccumulator :
    ([0x7F7FFFFF#32, 0xFF7FFFFF#32] : List Pattern).length ≤ 2 ^ 1 ∧
    ∀ p ∈ ([0x7F7FFFFF#32, 0xFF7FFFFF#32] : List Pattern), isFinite p = true := by
  refine ⟨by decide, fun p hp => ?_⟩
  obtain rfl | rfl : p = 0x7F7FFFFF#32 ∨ p = 0xFF7FFFFF#32 := by simpa using hp
  · decide
  · decide
theorem witness_PatternValueIsBinary32 :
    (0x00000001#32).toNat / 2 ^ 23 % 2 ^ 8 = 0 ∧ (0xFF7FFFFF#32).toNat / 2 ^ 23 % 2 ^ 8 = 254 := by decide
theorem witness_RoundingKeepsBinary32Values : isFinite 0x7F7FFFFF#32 = true ∧ isFinite 0x00000001#32 = true := by decide
theorem witness_RoundingGivesTheNearestBinary32Value : rne32 (1 / 3) = .fin (11184811 / 33554432) := by decide +kernel
theorem witness_RoundingModesDifferOnlyAtHalves :
    (5 / 2 : Rat) = ((2 : Int) : Rat) + 1 / 2 ∧ Int.fract |(-5 / 4 : Rat)| < 1 / 2 ∧
    1 / 2 < Int.fract |(-7 / 4 : Rat)| ∧ ∀ z : Int, (0 : Rat) ≠ z + 1 / 2 := by
  refine ⟨by norm_num, by decide +kernel, by decide +kernel, fun z h => ?_⟩
  have : (2 * z + 1 : Rat) = 0 := by linarith
  exact absurd (by exact_mod_cast this : 2 * z + 1 = 0) (by omega)
theorem witness_DecimalLiteralDenotesItsPattern : isFinite 0x406AE148#32 = true ∧ 0x406AE148#32 ≠ 0x80000000#32 := by
  decide
theorem witness_MotionCountsUnlessDebounced :
    Build.standard.countW = 16 ∧
    s0.schState = .pending ∧ s0.rst = false ∧ s0.build.debounceEn = true ∧
    ({ s0 with mcNext := 2000, now := 1999 } : State).now < 2000 ∧
    s0.now + s0.build.debounceMs < 2 ^ s0.build.tickW ∧
    2 ^ s0.build.tickW ≤ ({ s0 with now := 2 ^ 64 - 2000 } : State).now + s0.build.debounceMs := by decide
theorem witness_MotionWithoutDebounceAlwaysCounts :
    Build.standard.countW = 16 ∧
    s0.schState = .pending ∧ s0.rst = false ∧
    ({ s0 with build := { Build.standard with debounceEn := false } } : State).build.debounceEn = false := by decide
theorem witness_TwoTriggersCountByTheirSpacing :
    s0.schState = .pending ∧ s0.rst = false ∧ s0.build.debounceEn = true ∧ s0.mcCount = 0#16 ∧ s0.mcNext ≤ 100 ∧
    100 + s0.build.debounceMs ≤ 2100 ∧ ¬100 + s0.build.debounceMs ≤ 2099 ∧
    2100 + s0.build.debounceMs < 2 ^ s0.build.tickW := by decide
theorem witness_MotionCountSaturates :
    s0.build.countW = 16 ∧
    s0.schState = .pending ∧ s0.rst = false ∧ s0.mcCount = 0#16 ∧
    max s0.now s0.mcNext + 65536 * s0.build.debounceMs < 2 ^ s0.build.tickW := by decide
theorem witness_VoltageCodeIsSaturatedCeiling :
    Build.standard.voltSentinel = 0xFF#8 ∧
    scaleTen .cr32 (.fin (val32 0x406AE148#32)) = .fin (9620685 / 262144) ∧
    scaleTen .cr32 (.fin (val32 0x7F7FFFFF#32)) = .posInf ∧ scaleTen .cr32 (.fin (val32 0xFF7FFFFF#32)) = .negInf := by
  decide +kernel
theorem witness_TemperatureCodeIsSaturatedRounding :
    Build.standard.tempSentinel = 0x7FFF#16 ∧
    scaleTen .cr32 (.fin (val32 0x41BB999A#32)) = .fin (469 / 2) ∧ scaleTen .seq32 .posInf = .posInf ∧
    scaleTen .seq32 .negInf = .negInf := by decide +kernel
theorem witness_FrameHoldsItsThreeFields : Build.standard.frameBytes = 5 := by decide
theorem witness_SentinelsAreNotUnique :
    Build.standard.voltSentinel = 0xFF#8 ∧ Build.standard.tempSentinel = 0x7FFF#16 ∧
    Build.standard.arith = .cr32 ∧ Build.standard.tempRound = .halfEven ∧ isFinite 0x41CB3334#32 = true ∧
    isFinite 0x454CCA66#32 = true ∧ scaleTen .cr32 (.fin (val32 0x41CB3333#32)) = .fin 254 := by decide +kernel
theorem witness_InitPlansTheFirstReport :
    (State.reset.schState = .idle ∧ Instr.wf .button = true ∧ State.reset.rst = false ∧
      State.reset.now + State.reset.build.firstDelayMs < 2 ^ State.reset.build.tickW ∧
      2 ^ 64 ≤ ({ State.reset with now := 2 ^ 64 - 10000 } : State).now + State.reset.build.firstDelayMs) ∧
    (∃ t, step { State.reset with txAck := true } = .next t ∧ t.schState = .idle) ∧
    ∃ t, step { waiting with rst := true } = .next t ∧ t.schState = .idle :=
  ⟨by decide, ⟨_, rfl, rfl⟩, _, rfl, rfl⟩
theorem witness_ButtonPlansAnImmediateWake :
    s0.schState = .pending ∧ s0.rst = false ∧ s0.build.buttonOffsetMs = 0 ∧
    s0.now + s0.build.buttonOffsetMs < 2 ^ s0.build.tickW := by decide
theorem witness_WakeEncodesAndRequestsTheSend :
    s0.schState = .pending ∧ s0.rst = false ∧
    ({ s0 with now := 10000 } : State).wakeAt ≤ ({ s0 with now := 10000 } : State).now := by decide
theorem witness_SuccessfulSendClearsCountAndReplans :
    waiting.schState = .waitTx ∧ waiting.rst = false ∧
    waiting.wakeAt + waiting.build.successMs < 2 ^ waiting.build.tickW := by decide
theorem witness_FailedSendKeepsDataAndReplans :
    waiting.schState = .waitTx ∧ waiting.rst = false ∧
    waiting.wakeAt + waiting.build.retryMs < 2 ^ waiting.build.tickW := by decide
theorem witness_RetriesHaveNoLimitAndNoBackoff :
    s0.schState = .pending ∧ s0.rst = false ∧ s0.wakeAt + 1000000 * s0.build.retryMs < 2 ^ s0.build.tickW := by decide
theorem witness_TimesBeyondTickWidthAreRefused :
    s0.rst = false ∧ s0.schState = .pending ∧ s0.build.debounceEn = true ∧
    2 ^ 64 ≤ ({ s0 with now := 2 ^ 64 - 2000 } : State).now + s0.build.debounceMs ∧
    2 ^ 64 ≤ ({ s0 with now := 2 ^ 64 } : State).now + s0.build.buttonOffsetMs ∧
    State.reset.schState = .idle ∧ State.reset.rst = false ∧
    2 ^ 64 ≤ ({ State.reset with now := 2 ^ 64 - 10000 } : State).now + State.reset.build.firstDelayMs ∧
    waiting.schState = .waitTx ∧ waiting.rst = false ∧
    2 ^ 64 ≤ ({ waiting with wakeAt := 2 ^ 64 - 900000 } : State).wakeAt + waiting.build.successMs ∧
    2 ^ 64 ≤ ({ waiting with wakeAt := 2 ^ 64 - 1000 } : State).wakeAt + waiting.build.retryMs := by decide
theorem witness_OnlyTimeOverflowIsRefused : overflows (step { State.reset with now := 2 ^ 64 - 10000 }) = true := by
  decide
theorem witness_SchedulerTransitionsAreExactlyThese :
    (∃ t, step { waiting with rst := true } = .next t) ∧ (∃ t, step State.reset = .next t) ∧
    (∃ t, step (offering [0x0600000000#40]) = .next t) ∧ (∃ t, step { s0 with now := 10000 } = .next t) ∧
    (∃ t, step { waiting with txAck := true } = .next t) ∧ ∃ t, step waiting = .next t :=
  ⟨⟨_, rfl⟩, ⟨_, rfl⟩, ⟨_, rfl⟩, ⟨_, rfl⟩, ⟨_, rfl⟩, _, rfl⟩
theorem witness_EnabledWakeStaysEnabled :
    s0.build.buttonOffsetMs = 0 ∧ s0.rst = false ∧ ({ s0 with now := 10000 } : State).wakeDue = true ∧
    (∃ t, step { s0 with now := 10000 } = .next t) ∧ ∃ t, step { s0 with now := 10000, wakeTurn := false } = .next t :=
  ⟨by decide, by decide, by decide, ⟨_, rfl⟩, _, rfl⟩
theorem witness_ErrBitsAreSticky :
    (∃ t, step { s0 with err := 0b0001#4 } = .next t) ∧ s0.rst = false ∧ (0b0001#4).getLsbD 0 = true :=
  ⟨⟨_, rfl⟩, by decide, by decide⟩
theorem witness_AnErrorChangesOnlyErr :
    (∃ t, step (offering [0x0000000000#40]) = .next t ∧ t.err ≠ s0.err) ∧ s0.rst = false :=
  ⟨⟨_, rfl, by decide⟩, by decide⟩
theorem witness_ResetRestoresEveryRegister :
    ({ waiting with rst := true } : State).rst = true ∧ waiting.build.fitsStatus = true := by decide
theorem witness_StatusShowsTheRegisters :
    s0.build.fitsStatus = true ∧ s0.ts.length ≤ s0.build.n ∧ s0.vs.length ≤ s0.build.n := by decide
theorem witness_ObservationPortShowsTheState : ({ s0 with ts := [0x41AA0000#32] } : State).Inv := by
  refine ⟨by decide, ⟨by decide, fun p hp => ?_⟩, streamOk_nil _, by decide, by decide, by decide⟩
  obtain rfl : p = 0x41AA0000#32 := by simpa using hp
  decide
theorem witness_LedPulseMarksExactlyTheSuccesses : ∃ t, step { waiting with txAck := true, txOk := true } = .next t :=
  ⟨_, rfl⟩
theorem witness_OutputTraceRecordsTheEvents :
    (∃ t, step { s0 with now := 10000 } = .next t) ∧ (∃ t, step { waiting with txAck := true, txOk := true } = .next t) ∧
    ∃ t, step s0 = .next t :=
  ⟨⟨_, rfl⟩, ⟨_, rfl⟩, _, rfl⟩
theorem witness_StreamsChangeOnlyByTheirCommands :
    (∃ t, step (offering [0x0141AA0000#40]) = .next t ∧ t.ts ≠ s0.ts) ∧
    (∃ t, step (offering [0x03406AE148#40]) = .next t ∧ t.vs ≠ s0.vs) ∧ s0.rst = false :=
  ⟨⟨_, rfl, by decide⟩, ⟨_, rfl, by decide⟩, by decide⟩
theorem witness_RegistersHaveOnlyTheirWriters :
    (∃ t, step (offering [0x0500000000#40]) = .next t ∧ t.mcNext ≠ s0.mcNext ∧ t.mcCount ≠ s0.mcCount) ∧
    (∃ t, step { waiting with txAck := true, txOk := true } = .next t ∧ t.mcCount ≠ waiting.mcCount) ∧
    (∃ t, step { s0 with now := 10000 } = .next t ∧ t.txFrame ≠ s0.txFrame) ∧ s0.rst = false :=
  ⟨⟨_, rfl, by decide, by decide⟩, ⟨_, rfl, by decide⟩, ⟨_, rfl, by decide +kernel⟩, by decide⟩
theorem witness_OperationsLeaveThePortsAlone : ∃ t, exec .motion s0 = .next t := ⟨_, rfl⟩
theorem witness_TimeAndOfferedCommandsArePreserved :
    (∃ t, step (offering [0x0500000000#40, 0x0600000000#40]) = .next t) ∧
    ∃ t, step { waiting with cmdQueue := [0x0600000000#40] } = .next t := ⟨⟨_, rfl⟩, _, rfl⟩
theorem witness_TxOkIsIgnoredWithoutAck : waiting.txAck = false := by decide
theorem witness_EveryStepKeepsTheInvariant : s0.Inv ∧ ∃ t, step (offering [0x0141AA0000#40]) = .next t :=
  ⟨⟨by decide, streamOk_nil _, streamOk_nil _, by decide, by decide, by decide⟩, _, rfl⟩
theorem witness_EveryStepKeepsTheSnapshot :
    ({ waiting with txFrame := reportFrame waiting } : State).SnapshotInv ∧
    ∃ t, step { waiting with txFrame := reportFrame waiting } = .next t :=
  ⟨fun _ => ⟨rfl, by decide⟩, _, rfl⟩
theorem witness_EveryStepKeepsIdleAtReset :
    State.reset.IdleInv ∧ ∃ t, step { State.reset with txAck := true } = .next t :=
  ⟨fun _ => ⟨rfl, rfl, rfl, rfl, rfl, rfl⟩, _, rfl⟩
theorem witness_EveryStepKeepsAnswersBehindRequests :
    ({ waiting with events := [.txRequest 0#40 10000], txAck := true, txOk := true } : State).AnswerInv ∧
    ∃ t, step { waiting with events := [.txRequest 0#40 10000], txAck := true, txOk := true } = .next t :=
  ⟨by simp [State.AnswerInv, State.successes, State.requests, waiting, s0], _, rfl⟩

theorem witness_ResetMeetsTheInvariants :
    waiting.build.wf = true ∧ waiting.now < 2 ^ waiting.build.tickW ∧
    ({ waiting with events := [.txRequest 0#40 10000] } : State).AnswerInv :=
  ⟨by decide, by decide, by simp [State.AnswerInv, State.successes, State.requests, waiting, s0]⟩

end Sys2Proof.Tests
end

namespace Sys2Proof.Machine

/-! ## Edges of the command port and waiting edges

What a step is at the edges that perform a command or nothing (00_scope.md R7, 30_encoding.md R71), which operations
are held, and which refusals there are. -/

section Edges

variable {s : State}

/-- The step at an edge that goes to the command port: the word is accepted, dropped, and the next edge begins. -/
theorem step_of_pick_command {w : CmdWord} (hp : pick s = some (.inr w)) (ha : s.txAck = false) :
    step s = thenNextEdge (thenRun (acceptWord w s.beginStep) fun t => .next t.dropCommand) := by
  have hs (t : State) : settle s t = t.dropCommand.nextEdge := by
    simp [settle, State.ackIsSpurious, ha, hp]
  simp only [step, hp, perform, hs]
  cases acceptWord w s.beginStep <;> rfl

/-- The step at an edge at which the block takes no operation. -/
theorem step_of_pick_none (hp : pick s = none) (ha : s.txAck = false) : step s = .next s.beginStep.nextEdge := by
  have hm : perform (pick s) s.beginStep = .next s.beginStep := by rw [hp]; rfl
  rw [step_of_perform hm]
  simp [settle, State.ackIsSpurious, ha, hp]

/-- No command touches the commands on offer. -/
theorem CommandEffect.cmdQueue_eq {b t : State} {w : CmdWord} (h : CommandEffect b w t) : t.cmdQueue = b.cmdQueue := by
  cases h <;> rfl

/-- Dropping the command that was accepted leaves the rest of the queue as it was before the command. -/
theorem CommandEffect.dropCommand_eq {b t : State} {w : CmdWord} {q : List CmdWord} (h : CommandEffect b w t)
    (hq : b.cmdQueue = w :: q) : t.dropCommand = { t with cmdQueue := q } := by
  simp [State.dropCommand, h.cmdQueue_eq, hq]

/-- In WAIT_TX the coming edge brings an ack or takes one edge off the script (60_exceptions.md R255 item 3). -/
theorem nextEdge_progress_of_waitTx (h : s.schState = .waitTx) :
    s.nextEdge.txAck = true ∨ s.nextEdge.script.length < s.script.length := by
  obtain hack | hne := comingEdge_waitTx h
  · exact .inl hack
  · refine .inr ?_
    have := List.length_pos_iff.2 hne
    simp only [State.nextEdge_script, List.length_tail]
    omega

/-- A command is held wherever `cmd_ready` is low (30_encoding.md R71). -/
theorem exec_command_held {i : Instr} (hi : i.wf = true) (h : ¬(s.schState = .pending ∧ s.rst = false)) :
    exec i s = .next s := by
  cases i with
  | tempUpdate | tempError | voltUpdate | voltError | motion | button => exact whenAccepted_of_not_ready h _
  | init | wake | txComplete | reset => cases hi

theorem exec_init_held (h : ¬(s.schState = .idle ∧ s.rst = false)) : exec .init s = .next s := if_neg h

theorem exec_wake_held (h : ¬(s.schState = .pending ∧ s.wakeAt ≤ s.now ∧ s.rst = false)) :
    exec .wake s = .next s := by
  refine if_neg ?_
  simp only [Bool.and_eq_true, wakeDue_iff, Bool.not_eq_true']
  tauto

theorem exec_txComplete_held (h : s.rst = true) (ok : Bool) : exec (.txComplete ok) s = .next s := if_pos h

end Edges

/-- Settles O5: the step at an edge of the command port, with the queue as the accepted command leaves it. -/
theorem stepRunsAcceptedCommand : Obligations.StepRunsAcceptedCommand := by
  unfold Obligations.StepRunsAcceptedCommand
  intro s w q i hq hs hr ha hw hd
  have hp : pick s = some (.inr w) := by rw [pick_command hr ha hs hw, hq]; rfl
  rw [step_of_pick_command hp ha, acceptWord_ok hd]
  change _ = thenNextEdge (thenRun (exec i s.beginStep) _)
  cases he : exec i s.beginStep with
  | next t =>
    have heff : CommandEffect s.beginStep w t := acceptWord_effect hs hr (by rw [acceptWord_ok hd, he])
    simp only [thenRun, heff.dropCommand_eq hq]
  | fault f => rfl
  | refused r => rfl

/-- Settles O8: such an edge has no move, and in WAIT_TX the coming edge brings an ack or uses up the script. -/
theorem idleEdgeOnlyWaits : Obligations.IdleEdgeOnlyWaits := by
  unfold Obligations.IdleEdgeOnlyWaits
  refine ⟨fun s hr ha hs => ?_, fun s t hs hr ha h => ?_⟩
  · refine step_of_pick_none ?_ ha
    obtain hs | ⟨hs, hq, hw⟩ := hs
    · exact pick_waitTx hr ha hs
    · rw [pick_command hr ha hs hw.symm, hq]
      rfl
  · rw [step_of_pick_none (pick_waitTx hr ha hs) ha] at h
    cases h
    have hb : s.beginStep.schState = .waitTx := hs
    exact ⟨hb, (nextEdge_progress_of_waitTx hb).imp_right .inr⟩

/-- Settles O12: each operation is held off its own enabling condition. -/
theorem operationsNotEnabledAreHeld : Obligations.OperationsNotEnabledAreHeld := by
  unfold Obligations.OperationsNotEnabledAreHeld
  refine fun s => ⟨fun i hi h => exec_command_held hi ?_, fun h => exec_init_held ?_, fun h => exec_wake_held ?_,
    exec_txComplete_held⟩
  · rintro ⟨hs, hr⟩
    simp [hs, hr] at h
  · rintro ⟨hs, hr⟩
    simp [hs, hr] at h
  · rintro ⟨hs, hw, hr⟩
    simp only [hs, hr, ne_eq, not_true_eq_false, Bool.false_eq_true, or_false, false_or] at h
    omega

/-! ## Refusals -/

section Refusals

variable {s : State} {r : Refusal}

/-- Some time computed from NOW or from WAKE_AT with one of the build's offsets is beyond TICK_W bits
(43_report_scheduler.md R187). -/
def State.SomeTimeOverflows (s : State) : Prop :=
  2 ^ s.build.tickW ≤ s.now + max s.build.debounceMs (max s.build.buttonOffsetMs s.build.firstDelayMs) ∨
    2 ^ s.build.tickW ≤ s.wakeAt + max s.build.successMs s.build.retryMs

theorem whenAccepted_refused {e : Result} (h : whenAccepted s e = .refused r) : e = .refused r := by
  by_cases hc : s.schState = .pending ∧ s.rst = false
  · rwa [whenAccepted_of_ready hc.1 hc.2] at h
  · rw [whenAccepted_of_not_ready hc] at h
    cases h

theorem execMotion_refused (h : exec .motion s = .refused r) :
    2 ^ s.build.tickW ≤ s.now + s.build.debounceMs ∧ r = .timeOverflow := by
  have h := whenAccepted_refused h
  split_ifs at h
  exact withTime_refused h

theorem execButton_refused (h : exec .button s = .refused r) :
    2 ^ s.build.tickW ≤ s.now + s.build.buttonOffsetMs ∧ r = .timeOverflow :=
  withTime_refused (whenAccepted_refused h)

theorem execInit_refused (h : exec .init s = .refused r) :
    2 ^ s.build.tickW ≤ s.now + s.build.firstDelayMs ∧ r = .timeOverflow := by
  simp only [exec, execInit] at h
  split_ifs at h
  · exact withTime_refused h
  · cases h

theorem execTxComplete_refused {ok : Bool} (h : exec (.txComplete ok) s = .refused r) :
    (2 ^ s.build.tickW ≤ s.wakeAt + s.build.successMs ∨ 2 ^ s.build.tickW ≤ s.wakeAt + s.build.retryMs) ∧
      r = .timeOverflow := by
  simp only [exec, execTxComplete] at h
  split_ifs at h
  · cases h
  · exact (withTime_refused h).imp_left .inl
  · exact (withTime_refused h).imp_left .inr

/-- No operation is refused but for a time sum, and each sum is one of the five. -/
theorem exec_refused {i : Instr} (h : exec i s = .refused r) : r = .timeOverflow ∧ s.SomeTimeOverflows := by
  unfold State.SomeTimeOverflows
  cases i with
  | tempUpdate p | voltUpdate p =>
    have h := whenAccepted_refused h
    split_ifs at h
  | tempError | voltError => cases whenAccepted_refused h
  | motion =>
    obtain ⟨ht, rfl⟩ := execMotion_refused h
    exact ⟨rfl, by omega⟩
  | button =>
    obtain ⟨ht, rfl⟩ := execButton_refused h
    exact ⟨rfl, by omega⟩
  | init =>
    obtain ⟨ht, rfl⟩ := execInit_refused h
    exact ⟨rfl, by omega⟩
  | wake =>
    simp only [exec, execWake] at h
    split_ifs at h
    cases h
  | txComplete ok =>
    obtain ⟨ht, rfl⟩ := execTxComplete_refused h
    exact ⟨rfl, by omega⟩
  | reset => cases h

theorem perform_refused {m : Move} (h : perform m s = .refused r) : r = .timeOverflow ∧ s.SomeTimeOverflows := by
  match m with
  | none => cases h
  | some (.inl i) => exact exec_refused h
  | some (.inr w) =>
    cases hd : decode w with
    | ok i => exact exec_refused ((acceptWord_ok hd s).symm.trans h)
    | error e =>
      rw [perform, acceptWord_error hd] at h
      cases h

end Refusals

/-- Settles O41: a refused step is a refused move, and a move is refused for a time sum only. -/
theorem onlyTimeOverflowIsRefused : Obligations.OnlyTimeOverflowIsRefused := by
  unfold Obligations.OnlyTimeOverflowIsRefused
  exact fun s r h => perform_refused (s := s.beginStep) (step_refused h)

/-! ## The integer roundings (00_scope.md R14) -/

section IntegerRounding

/-! ### Each mode, by the fraction or through Mathlib's `round` -/

theorem roundHalfEven_of_fract_lt {x : Rat} (h : Int.fract x < 1 / 2) : roundHalfEven x = ⌊x⌋ := if_pos h

theorem roundHalfEven_of_lt_fract {x : Rat} (h : 1 / 2 < Int.fract x) : roundHalfEven x = ⌊x⌋ + 1 :=
  (if_neg h.not_gt).trans (if_pos h)

theorem roundHalfEven_of_fract_eq {x : Rat} (h : Int.fract x = 1 / 2) :
    roundHalfEven x = if ⌊x⌋ % 2 = 0 then ⌊x⌋ else ⌊x⌋ + 1 :=
  (if_neg h.not_lt).trans (if_neg h.not_gt)

theorem roundHalfUp_eq_round (x : Rat) : roundHalfUp x = round x := (round_eq x).symm

theorem roundHalfAway_eq (x : Rat) : roundHalfAway x = ratSign x * round |x| := by
  rw [round_eq]
  rfl

theorem ratSign_of_neg {x : Rat} (h : x < 0) : ratSign x = -1 := if_pos h

theorem ratSign_of_nonneg {x : Rat} (h : 0 ≤ x) : ratSign x = 1 := if_neg h.not_gt

theorem abs_ratSign (x : Rat) : |(ratSign x : Rat)| = 1 := by
  unfold ratSign
  split_ifs <;> simp

theorem ratSign_mul_abs (x : Rat) : (ratSign x : Rat) * |x| = x := by
  obtain h | h := lt_or_ge x 0
  · simp [ratSign_of_neg h, abs_of_neg h]
  · simp [ratSign_of_nonneg h, abs_of_nonneg h]

/-- With the sign put back, a magnitude is as far from `x` as it is from `|x|`. -/
theorem abs_ratSign_mul_sub (x a : Rat) : |(ratSign x : Rat) * a - x| = abs (a - |x|) := by
  calc |(ratSign x : Rat) * a - x| = |(ratSign x : Rat) * (a - |x|)| := by rw [mul_sub, ratSign_mul_abs]
    _ = abs (a - |x|) := by rw [abs_mul, abs_ratSign, one_mul]

/-! ### How near each mode is -/

/-- HALF_EVEN is as near as HALF_UP, which is Mathlib's `round`. -/
theorem abs_roundHalfEven_sub (x : Rat) : |(roundHalfEven x : Rat) - x| = |x - round x| := by
  have hx := Int.floor_add_fract x
  have hlo : |(⌊x⌋ : Rat) - x| = Int.fract x := by
    rw [abs_sub_comm, Int.self_sub_floor, abs_of_nonneg (Int.fract_nonneg x)]
  have hhi : |((⌊x⌋ + 1 : Int) : Rat) - x| = 1 - Int.fract x := by
    rw [abs_of_nonneg (by push_cast; linarith [Int.fract_lt_one x])]
    push_cast
    linarith
  rw [abs_sub_round_eq_min]
  rcases lt_trichotomy (Int.fract x) (1 / 2) with h | h | h
  · rw [roundHalfEven_of_fract_lt h, hlo, min_eq_left (by linarith)]
  · rw [min_eq_left (by linarith)]
    obtain he | he := roundHalfEven_cases x <;> rw [he]
    · exact hlo
    · rw [hhi]
      linarith
  · rw [roundHalfEven_of_lt_fract h, hhi, min_eq_right (by linarith)]

/-- No integer is nearer than HALF_EVEN's. -/
theorem abs_roundHalfEven_sub_le (x : Rat) (z : Int) : |(roundHalfEven x : Rat) - x| ≤ |(z : Rat) - x| := by
  rw [abs_roundHalfEven_sub, abs_sub_comm (z : Rat)]
  exact round_le x z

/-- The three modes that round to nearest are at most 1/2 away (42_frame_encoder.md R153). -/
theorem abs_roundT_sub_le {r : TempRound} (hr : r ≠ .trunc) (x : Rat) : |(roundT r x : Rat) - x| ≤ 1 / 2 := by
  cases r with
  | halfEven =>
    rw [roundT, abs_roundHalfEven_sub]
    exact abs_sub_round x
  | halfAway =>
    rw [roundT, roundHalfAway_eq, Int.cast_mul, abs_ratSign_mul_sub, abs_sub_comm]
    exact abs_sub_round |x|
  | halfUp =>
    rw [roundT, roundHalfUp_eq_round, abs_sub_comm]
    exact abs_sub_round x
  | trunc => exact absurd rfl hr

/-- TRUNC is off by the fraction of the magnitude. -/
theorem abs_roundTrunc_sub (x : Rat) : |(roundTrunc x : Rat) - x| = Int.fract |x| := by
  rw [roundTrunc, Int.cast_mul, abs_ratSign_mul_sub, abs_sub_comm, Int.self_sub_floor, Int.abs_fract]

/-! ### Two integers near one number -/

theorem eq_of_abs_sub_lt_one {a b : Int} {x : Rat} (h : |(a : Rat) - x| + |(b : Rat) - x| < 1) : a = b := by
  have hd : |((a - b : Int) : Rat)| < 1 := by
    push_cast
    calc |(a : Rat) - b| ≤ |(a : Rat) - x| + |x - b| := abs_sub_le _ _ _
      _ < 1 := by rwa [abs_sub_comm x]
  have : |a - b| < 1 := by exact_mod_cast hd
  exact sub_eq_zero.1 (Int.abs_lt_one_iff.1 this)

/-- Off the halves, no integer is exactly 1/2 away. -/
theorem abs_sub_lt_half {x : Rat} (hx : ∀ z : Int, x ≠ z + 1 / 2) {a : Int} (ha : |(a : Rat) - x| ≤ 1 / 2) :
    |(a : Rat) - x| < 1 / 2 := by
  refine lt_of_le_of_ne ha fun h => ?_
  obtain h | h := eq_or_eq_neg_of_abs_eq h
  · refine hx (a - 1) ?_
    push_cast
    linarith
  · exact hx a (by linarith)

theorem roundT_eq_of_ne_half {x : Rat} (hx : ∀ z : Int, x ≠ z + 1 / 2) {r r' : TempRound} (hr : r ≠ .trunc)
    (hr' : r' ≠ .trunc) : roundT r x = roundT r' x := by
  have h := abs_sub_lt_half hx (abs_roundT_sub_le hr x)
  have h' := abs_sub_lt_half hx (abs_roundT_sub_le hr' x)
  exact eq_of_abs_sub_lt_one (x := x) (by linarith)

/-! ### The exact halves -/

theorem floor_add_half (z : Int) : ⌊(z + 1 / 2 : Rat)⌋ = z := by
  rw [Int.floor_intCast_add]
  norm_num

theorem fract_add_half (z : Int) : Int.fract (z + 1 / 2 : Rat) = 1 / 2 := by
  rw [Int.fract_intCast_add]
  norm_num

theorem round_add_half (z : Int) : round (z + 1 / 2 : Rat) = z + 1 := by
  rw [round_eq, Int.floor_eq_iff]
  push_cast
  constructor <;> linarith

/-- The magnitude of a half below zero is a half too. -/
theorem abs_half_of_neg {z : Int} (h : z < 0) : |(z + 1 / 2 : Rat)| = ((-z - 1 : Int) : Rat) + 1 / 2 := by
  have hz : (z : Rat) ≤ -1 := by exact_mod_cast Int.le_sub_one_of_lt h
  rw [abs_of_neg (by linarith)]
  push_cast
  ring

theorem half_nonneg_of_nonneg {z : Int} (h : 0 ≤ z) : (0 : Rat) ≤ z + 1 / 2 := by positivity

theorem half_neg_of_neg {z : Int} (h : z < 0) : (z + 1 / 2 : Rat) < 0 := by
  have hz : (z : Rat) ≤ -1 := by exact_mod_cast Int.le_sub_one_of_lt h
  linarith

theorem roundHalfEven_half_even (z : Int) : roundHalfEven (z + 1 / 2) % 2 = 0 := by
  rw [roundHalfEven_of_fract_eq (fract_add_half z), floor_add_half]
  split_ifs <;> omega

theorem roundHalfUp_half (z : Int) : roundHalfUp (z + 1 / 2) = z + 1 := by
  rw [roundHalfUp_eq_round, round_add_half]

theorem roundHalfAway_half (z : Int) : roundHalfAway (z + 1 / 2) = if 0 ≤ z then z + 1 else z := by
  rw [roundHalfAway_eq]
  split_ifs with h
  · rw [ratSign_of_nonneg (half_nonneg_of_nonneg h), abs_of_nonneg (half_nonneg_of_nonneg h), round_add_half, one_mul]
  · have h := not_le.1 h
    rw [ratSign_of_neg (half_neg_of_neg h), abs_half_of_neg h, round_add_half]
    ring

theorem roundTrunc_half (z : Int) : roundTrunc (z + 1 / 2) = if 0 ≤ z then z else z + 1 := by
  rw [roundTrunc]
  split_ifs with h
  · rw [ratSign_of_nonneg (half_nonneg_of_nonneg h), abs_of_nonneg (half_nonneg_of_nonneg h), floor_add_half, one_mul]
  · have h := not_le.1 h
    rw [ratSign_of_neg (half_neg_of_neg h), abs_half_of_neg h, floor_add_half]
    ring

end IntegerRounding

/-- Settles O24: off the halves there is one nearest integer; TRUNC is off by the fraction of |x|. -/
theorem roundingModesDifferOnlyAtHalves : Obligations.RoundingModesDifferOnlyAtHalves := by
  unfold Obligations.RoundingModesDifferOnlyAtHalves
  intro x
  have hnear : |(roundT .halfEven x : Rat) - x| ≤ 1 / 2 := abs_roundT_sub_le (by decide) x
  have htrunc : |(roundT .trunc x : Rat) - x| = Int.fract |x| := abs_roundTrunc_sub x
  refine ⟨fun r hr => abs_roundT_sub_le hr x, fun hx => ?_, ?_, fun hf => ?_, fun hf h => ?_⟩
  · exact ⟨roundT_eq_of_ne_half hx (by decide) (by decide), roundT_eq_of_ne_half hx (by decide) (by decide)⟩
  · rintro z rfl
    exact ⟨roundHalfEven_half_even z, roundHalfUp_half z, roundHalfAway_half z, roundTrunc_half z⟩
  · exact eq_of_abs_sub_lt_one (x := x) (by linarith)
  · rw [← h] at hnear
    linarith

/-! ## The fields of a sample pattern (00_scope.md R12) -/

section PatternFields

variable (p : Pattern)

theorem exponentField_toNat : (exponentField p).toNat = p.toNat / 2 ^ 23 % 2 ^ 8 := by
  simp [exponentField, BitVec.extractLsb'_toNat, Nat.shiftRight_eq_div_pow]

theorem fractionField_toNat : (fractionField p).toNat = p.toNat % 2 ^ 23 := by
  simp [fractionField, BitVec.extractLsb'_toNat]

theorem pattern_msb : p.msb = decide (2 ^ 31 ≤ p.toNat) := BitVec.msb_eq_decide p

/-- A pattern is its sign, its exponent and its fraction. -/
theorem pattern_toNat :
    p.toNat = p.msb.toNat * 2 ^ 31 + (exponentField p).toNat * 2 ^ 23 + (fractionField p).toNat := by
  have hp : p.toNat < 2 ^ 32 := p.isLt
  rw [pattern_msb, exponentField_toNat, fractionField_toNat]
  by_cases h : 2 ^ 31 ≤ p.toNat
  · rw [decide_eq_true h, Bool.toNat_true]
    omega
  · rw [decide_eq_false h, Bool.toNat_false]
    omega

theorem isFinite_iff : isFinite p = true ↔ (exponentField p).toNat ≠ 255 := by
  rw [isFinite, decide_eq_true_eq, ne_eq, ← BitVec.toNat_inj]
  rfl

/-- The sign of a pattern, as a factor. -/
def patternSign : Rat := if p.msb then -1 else 1

/-- The significand of a finite pattern, with the leading bit of a normal one (00_scope.md R12). -/
def significand : Nat :=
  if (exponentField p).toNat = 0 then (fractionField p).toNat else 2 ^ 23 + (fractionField p).toNat

/-- The power of two that a finite pattern's significand counts (00_scope.md R12). -/
def unitExponent : Int := max ((exponentField p).toNat : Int) 1 - 150

variable {p}

theorem val32_of_exponent_zero (h : (exponentField p).toNat = 0) :
    val32 p = patternSign p * ((fractionField p).toNat : Rat) * 2 ^ (-149 : Int) := by
  simp [val32, patternSign, h]

theorem val32_of_exponent_pos (h0 : (exponentField p).toNat ≠ 0) (h : (exponentField p).toNat ≠ 255) :
    val32 p = patternSign p * ((2 ^ 23 + (fractionField p).toNat : Nat) : Rat) *
      2 ^ (((exponentField p).toNat : Int) - 150) := by
  simp [val32, patternSign, h, h0]

/-- A finite pattern's value is its significand in its units, with its sign (00_scope.md R12). -/
theorem val32_eq (h : isFinite p = true) :
    val32 p = patternSign p * ((significand p : Rat) * 2 ^ unitExponent p) := by
  rw [← mul_assoc]
  by_cases h0 : (exponentField p).toNat = 0
  · rw [val32_of_exponent_zero h0, significand, if_pos h0, unitExponent, h0]
    rfl
  · rw [val32_of_exponent_pos h0 ((isFinite_iff p).1 h), significand, if_neg h0, unitExponent,
      max_eq_left (by omega)]

theorem abs_patternSign : |patternSign p| = 1 := by
  unfold patternSign
  split_ifs <;> simp

theorem abs_val32 (h : isFinite p = true) : |val32 p| = (significand p : Rat) * 2 ^ unitExponent p := by
  rw [val32_eq h, abs_mul, abs_patternSign, one_mul, abs_of_nonneg (by positivity)]

theorem val32_eq_zero_iff (h : isFinite p = true) : val32 p = 0 ↔ significand p = 0 := by
  rw [← abs_eq_zero, abs_val32 h]
  simp [zpow_ne_zero]

theorem val32_neg_iff (h : isFinite p = true) (h0 : val32 p ≠ 0) : val32 p < 0 ↔ p.msb = true := by
  have hpos : 0 < (significand p : Rat) * 2 ^ unitExponent p := by
    rw [← abs_val32 h]
    exact abs_pos.2 h0
  rw [val32_eq h, patternSign]
  cases p.msb
  · simpa using hpos.le
  · simpa using hpos

end PatternFields

/-- Settles O21: the fields are the slices of the pattern as a number. -/
theorem patternValueIsBinary32 : Obligations.PatternValueIsBinary32 := by
  unfold Obligations.PatternValueIsBinary32
  intro p
  have hsign : (if 2 ^ 31 ≤ p.toNat then -1 else 1 : Rat) = patternSign p := by
    simp only [patternSign, pattern_msb, decide_eq_true_eq]
  simp only [hsign, ← exponentField_toNat, ← fractionField_toNat]
  exact ⟨isFinite_iff p, val32_of_exponent_zero, fun h0 h => val32_of_exponent_pos h0.ne' h.ne⟩

/-! ## Binary32 magnitudes: a significand and a power of two (00_scope.md R12, R13) -/

section Magnitudes

/-- `m * 2 ^ x` is the one form of a binary32 magnitude: normal, or subnormal at the least exponent. -/
structure CanonicalUnits (m : Nat) (x : Int) : Prop where
  lt : m < 2 ^ 24
  le_exponent : -149 ≤ x
  exponent_le : x ≤ 104
  normal_or_least : 2 ^ 23 ≤ m ∨ x = -149

/-- Every finite pattern is in canonical form. -/
theorem canonicalUnits_of_isFinite {p : Pattern} (h : isFinite p = true) :
    CanonicalUnits (significand p) (unitExponent p) := by
  have he : (exponentField p).toNat < 256 := (exponentField p).isLt
  have hf : (fractionField p).toNat < 2 ^ 23 := (fractionField p).isLt
  have hn := (isFinite_iff p).1 h
  by_cases h0 : (exponentField p).toNat = 0
  · have hx : unitExponent p = -149 := by simp [unitExponent, h0]
    have hm : significand p = (fractionField p).toNat := if_pos h0
    constructor <;> omega
  · have hx : unitExponent p = (exponentField p).toNat - 150 := by rw [unitExponent, max_eq_left (by omega)]
    have hm : significand p = 2 ^ 23 + (fractionField p).toNat := if_neg h0
    constructor <;> omega

variable {m : Nat} {x : Int}

theorem magnitude_lt_zpow {k : Nat} (hm : m < 2 ^ k) : (m : Rat) * 2 ^ x < 2 ^ (x + k) := by
  rw [zpow_add₀ two_ne_zero, zpow_natCast, mul_comm]
  gcongr
  exact_mod_cast hm

theorem zpow_le_magnitude {k : Nat} (hm : 2 ^ k ≤ m) : (2 : Rat) ^ (x + k) ≤ (m : Rat) * 2 ^ x := by
  rw [zpow_add₀ two_ne_zero, zpow_natCast, mul_comm]
  gcongr
  exact_mod_cast hm

/-- The binary exponent of a normal magnitude. -/
theorem log_magnitude (hlo : 2 ^ 23 ≤ m) (hhi : m < 2 ^ 24) : Int.log 2 ((m : Rat) * 2 ^ x) = x + 23 := by
  have hpos : (0 : Rat) < m * 2 ^ x := lt_of_lt_of_le (by positivity) (zpow_le_magnitude hlo)
  have hle := (Int.zpow_le_iff_le_log (b := 2) (by decide) hpos).1 (by exact_mod_cast zpow_le_magnitude hlo)
  have hlt := (Int.lt_zpow_iff_log_lt (b := 2) (by decide) hpos).1 (by exact_mod_cast magnitude_lt_zpow hhi)
  omega

/-- The unit in the last place of a canonical magnitude is the power of two that its significand counts. -/
theorem CanonicalUnits.ulp32_eq (h : CanonicalUnits m x) (hm : 0 < m) : ulp32 ((m : Rat) * 2 ^ x) = 2 ^ x := by
  have hx := h.le_exponent
  suffices he : max (Int.log 2 ((m : Rat) * 2 ^ x)) (-126) - 23 = x by rw [ulp32, he]
  by_cases hn : 2 ^ 23 ≤ m
  · rw [log_magnitude hn h.lt]
    omega
  · have hpos : (0 : Rat) < m * 2 ^ x := by positivity
    have hlt := (Int.lt_zpow_iff_log_lt (b := 2) (by decide) hpos).1
      (by exact_mod_cast magnitude_lt_zpow (not_le.1 hn))
    have hl := h.normal_or_least
    omega

/-- The greatest finite magnitude is `2 ^ 128 - 2 ^ 104`, below R13's overflow threshold. -/
theorem CanonicalUnits.magnitude_lt (h : CanonicalUnits m x) : (m : Rat) * 2 ^ x < 2 ^ 128 - 2 ^ 103 := by
  have hm : (m : Rat) ≤ 2 ^ 24 - 1 := by
    rw [le_sub_iff_add_le]
    exact_mod_cast h.lt
  have hx : (2 : Rat) ^ x ≤ 2 ^ (104 : Int) := zpow_le_zpow_right₀ (by norm_num) h.exponent_le
  calc (m : Rat) * 2 ^ x ≤ (2 ^ 24 - 1) * 2 ^ (104 : Int) := by gcongr
    _ < 2 ^ 128 - 2 ^ 103 := by norm_num

end Magnitudes

/-! ### The pattern of a canonical magnitude -/

section PatternOf

/-- The pattern of `m * 2 ^ x`, in canonical form, with a sign bit. -/
def patternOf (neg : Bool) (m : Nat) (x : Int) : Pattern :=
  BitVec.ofBool neg ++ BitVec.ofNat 8 (if m < 2 ^ 23 then 0 else (x + 150).toNat) ++ BitVec.ofNat 23 m

theorem patternOf_toNat (neg : Bool) (m : Nat) (x : Int) :
    (patternOf neg m x).toNat =
      neg.toNat * 2 ^ 31 + (if m < 2 ^ 23 then 0 else (x + 150).toNat) % 2 ^ 8 * 2 ^ 23 + m % 2 ^ 23 := by
  have hm : m % 2 ^ 23 < 2 ^ 23 := Nat.mod_lt _ (by decide)
  have he : (if m < 2 ^ 23 then 0 else (x + 150).toNat) % 2 ^ 8 < 2 ^ 8 := Nat.mod_lt _ (by decide)
  simp only [patternOf, BitVec.toNat_append, BitVec.toNat_ofNat, BitVec.toNat_ofBool]
  rw [← Nat.shiftLeft_add_eq_or_of_lt hm, ← Nat.shiftLeft_add_eq_or_of_lt he]
  simp only [Nat.shiftLeft_eq]
  ring

theorem patternOf_msb (neg : Bool) (m : Nat) (x : Int) : (patternOf neg m x).msb = neg := by
  rw [pattern_msb, patternOf_toNat]
  cases neg <;> simp only [Bool.toNat_false, Bool.toNat_true, decide_eq_false_iff_not, decide_eq_true_eq] <;> omega

theorem patternOf_exponent (neg : Bool) (m : Nat) (x : Int) :
    (exponentField (patternOf neg m x)).toNat = (if m < 2 ^ 23 then 0 else (x + 150).toNat) % 2 ^ 8 := by
  rw [exponentField_toNat, patternOf_toNat]
  omega

theorem patternOf_fraction (neg : Bool) (m : Nat) (x : Int) :
    (fractionField (patternOf neg m x)).toNat = m % 2 ^ 23 := by
  rw [fractionField_toNat, patternOf_toNat]
  omega

variable {m : Nat} {x : Int}

/-- The exponent field of a canonical magnitude: 0 for a subnormal one. -/
theorem CanonicalUnits.exponent_eq (h : CanonicalUnits m x) (neg : Bool) :
    (exponentField (patternOf neg m x)).toNat = if m < 2 ^ 23 then 0 else (x + 150).toNat := by
  have hlo := h.le_exponent
  have hhi := h.exponent_le
  rw [patternOf_exponent, Nat.mod_eq_of_lt]
  split_ifs <;> omega

theorem CanonicalUnits.isFinite_patternOf (h : CanonicalUnits m x) (neg : Bool) :
    isFinite (patternOf neg m x) = true := by
  have hhi := h.exponent_le
  rw [isFinite_iff, h.exponent_eq]
  split_ifs <;> omega

theorem CanonicalUnits.significand_patternOf (h : CanonicalUnits m x) (neg : Bool) :
    significand (patternOf neg m x) = m := by
  have hlt := h.lt
  have hlo := h.le_exponent
  rw [significand, h.exponent_eq, patternOf_fraction]
  split_ifs <;> omega

theorem CanonicalUnits.unitExponent_patternOf (h : CanonicalUnits m x) (neg : Bool) :
    unitExponent (patternOf neg m x) = x := by
  have hlo := h.le_exponent
  have hn := h.normal_or_least
  rw [unitExponent, h.exponent_eq]
  split_ifs <;> omega

/-- Every canonical magnitude, with either sign, is the value of a finite pattern. -/
theorem CanonicalUnits.val32_patternOf (h : CanonicalUnits m x) (neg : Bool) :
    val32 (patternOf neg m x) = (if neg then -1 else 1) * ((m : Rat) * 2 ^ x) := by
  rw [val32_eq (h.isFinite_patternOf neg), h.significand_patternOf, h.unitExponent_patternOf, patternSign,
    patternOf_msb]

/-- A finite pattern is the pattern of its own parts. -/
theorem patternOf_parts {p : Pattern} (h : isFinite p = true) :
    patternOf p.msb (significand p) (unitExponent p) = p := by
  have hc := canonicalUnits_of_isFinite h
  have hf : (fractionField p).toNat < 2 ^ 23 := (fractionField p).isLt
  have he : (exponentField (patternOf p.msb (significand p) (unitExponent p))).toNat = (exponentField p).toNat := by
    rw [hc.exponent_eq, significand, unitExponent]
    split_ifs <;> omega
  have hm : (fractionField (patternOf p.msb (significand p) (unitExponent p))).toNat = (fractionField p).toNat := by
    rw [patternOf_fraction, significand]
    split_ifs <;> omega
  apply BitVec.eq_of_toNat_eq
  rw [pattern_toNat, pattern_toNat p, he, hm, patternOf_msb]

end PatternOf

/-! ## Rounding to binary32 (00_scope.md R13) -/

section Rounding

/-- A finite pattern's magnitude is its significand in units of its last place. -/
theorem ulp32_val32 {p : Pattern} (h : isFinite p = true) (h0 : val32 p ≠ 0) :
    ulp32 |val32 p| = 2 ^ unitExponent p := by
  have hpos : 0 < significand p := Nat.pos_of_ne_zero (mt (val32_eq_zero_iff h).2 h0)
  rw [abs_val32 h]
  exact (canonicalUnits_of_isFinite h).ulp32_eq hpos

theorem abs_val32_lt {p : Pattern} (h : isFinite p = true) : |val32 p| < 2 ^ 128 - 2 ^ 103 := by
  rw [abs_val32 h]
  exact (canonicalUnits_of_isFinite h).magnitude_lt

/-- Rounding fixes every finite pattern's value. -/
theorem rne32_val32 {p : Pattern} (h : isFinite p = true) : rne32 (val32 p) = .fin (val32 p) := by
  by_cases h0 : val32 p = 0
  · rw [h0]
    rfl
  · refine rne32_of_units (z := significand p) (abs_val32_lt h) ?_
    rw [ulp32_val32 h h0, abs_val32 h]
    rfl

/-- What a finite result of rounding is. -/
theorem rne32_eq_fin {q r : Rat} (h : rne32 q = .fin r) :
    (q = 0 ∧ r = 0) ∨ (q ≠ 0 ∧ |q| < 2 ^ 128 - 2 ^ 103 ∧
      r = (ratSign q : Rat) * ((roundHalfEven (|q| / ulp32 |q|) : Rat) * ulp32 |q|)) := by
  unfold rne32 at h
  split_ifs at h with h0 hbig hneg <;> cases h
  · exact .inl ⟨h0, rfl⟩
  · exact .inr ⟨h0, not_le.1 hbig, mul_assoc _ _ _⟩

end Rounding

/-- Settles O22: a finite value is a whole number of its units in the last place. -/
theorem roundingKeepsBinary32Values : Obligations.RoundingKeepsBinary32Values := by
  unfold Obligations.RoundingKeepsBinary32Values
  exact fun p h => rne32_val32 h

section DecimalLiterals

/-- The pattern of a value other than zero, from its magnitude's significand and exponent. -/
theorem pattern32_of_units {q : Rat} {m : Nat} {x : Int} (h : CanonicalUnits m x) (h0 : q ≠ 0)
    (hq : |q| = (m : Rat) * 2 ^ x) : pattern32 (.fin q) = patternOf (decide (q < 0)) m x := by
  have hm : 0 < m := by
    refine Nat.pos_of_ne_zero fun hz => h0 ?_
    simpa [hz] using hq
  have hfloor : ⌊|q| / ulp32 |q|⌋.toNat = m := by
    rw [hq, h.ulp32_eq hm, mul_div_cancel_right₀ _ (by positivity)]
    simp
  have hexp : (if m < 2 ^ 23 then 0 else (Int.log 2 |q| + 127).toNat) = if m < 2 ^ 23 then 0 else (x + 150).toNat := by
    split_ifs with hn
    · rfl
    · rw [hq, log_magnitude (not_lt.1 hn) h.lt, add_assoc]
      rfl
  have hsign : (if q < 0 then 1#1 else 0#1) = BitVec.ofBool (decide (q < 0)) := by
    by_cases hneg : q < 0 <;> simp [hneg]
  simp only [pattern32, if_neg h0, hfloor, hexp, hsign, patternOf]

/-- Only the two zero patterns have the value 0 (00_scope.md R12). -/
theorem eq_zero_of_val32_eq_zero {p : Pattern} (h : isFinite p = true) (h0 : val32 p = 0) :
    p = 0#32 ∨ p = 0x80000000#32 := by
  have hm := (val32_eq_zero_iff h).1 h0
  have hx : unitExponent p = -149 :=
    (canonicalUnits_of_isFinite h).normal_or_least.resolve_left (by rw [hm]; decide)
  rw [← patternOf_parts h, hm, hx]
  cases p.msb <;> decide

end DecimalLiterals

/-- Settles O25: the literal's value is not changed by rounding, and its pattern is assembled from the same parts. -/
theorem decimalLiteralDenotesItsPattern : Obligations.DecimalLiteralDenotesItsPattern := by
  unfold Obligations.DecimalLiteralDenotesItsPattern
  intro p h hnz
  rw [rne32_val32 h]
  by_cases h0 : val32 p = 0
  · rw [h0]
    exact ((eq_zero_of_val32_eq_zero h h0).resolve_right hnz).symm
  · have hsign : decide (val32 p < 0) = p.msb := by
      rw [Bool.eq_iff_iff, decide_eq_true_eq, val32_neg_iff h h0]
    rw [pattern32_of_units (canonicalUnits_of_isFinite h) h0 (abs_val32 h), hsign, patternOf_parts h]

/-! ## The nearest binary32 value (00_scope.md R13) -/

section Nearest

theorem le_roundHalfEven {y : Rat} {k : Int} (h : (k : Rat) ≤ y) : k ≤ roundHalfEven y := by
  have := Int.le_floor.2 h
  obtain he | he := roundHalfEven_cases y <;> omega

theorem roundHalfEven_le {y : Rat} {k : Int} (h : y < k) : roundHalfEven y ≤ k := by
  have := Int.floor_lt.2 h
  obtain he | he := roundHalfEven_cases y <;> omega

/-- Below the middle of `k - 1` and `k`, HALF_EVEN stays below `k`. -/
theorem roundHalfEven_lt {y : Rat} {k : Int} (h : y < k - 1 / 2) : roundHalfEven y < k := by
  have hn := (abs_le.1 (abs_roundT_sub_le (r := .halfEven) (by decide) y)).2
  have : (roundHalfEven y : Rat) < k := by
    rw [roundT] at hn
    linarith
  exact_mod_cast this

/-- No multiple of the unit is nearer than the rounded one. -/
theorem abs_rounded_sub_le {a u : Rat} (hu : 0 < u) (k : Int) :
    |(roundHalfEven (a / u) : Rat) * u - a| ≤ |(k : Rat) * u - a| := by
  have hscale (b : Rat) : |b * u - a| = |b - a / u| * u := by
    rw [← abs_of_pos hu, ← abs_mul, abs_of_pos hu, sub_mul, div_mul_cancel₀ _ hu.ne']
  rw [hscale, hscale]
  exact mul_le_mul_of_nonneg_right (abs_roundHalfEven_sub_le _ k) hu.le

/-- The power of two that the last place of a magnitude counts (00_scope.md R13). -/
def lastPlace (a : Rat) : Int := max (Int.log 2 a) (-126) - 23

theorem ulp32_eq_lastPlace (a : Rat) : ulp32 a = 2 ^ lastPlace a := rfl

theorem le_lastPlace (a : Rat) : -149 ≤ lastPlace a := by
  unfold lastPlace
  omega

/-- Below `2 ^ 128` the last place counts at most `2 ^ 104`. -/
theorem lastPlace_le {a : Rat} (h0 : 0 < a) (h : a < 2 ^ 128) : lastPlace a ≤ 104 := by
  have := (Int.lt_zpow_iff_log_lt (b := 2) (x := 128) (by decide) h0).1 (by exact_mod_cast h)
  unfold lastPlace
  omega

/-- Above the least last place, a magnitude is at least `2 ^ 23` of its units. -/
theorem le_div_ulp32_of_lastPlace {a : Rat} (h0 : 0 < a) (h : lastPlace a ≠ -149) : 2 ^ 23 ≤ a / ulp32 a := by
  refine le_div_ulp32 h0 ?_
  unfold lastPlace at h
  omega

/-- A magnitude rounded below the overflow threshold is a binary32 magnitude. -/
theorem exists_canonicalUnits_rounded {a : Rat} (h0 : 0 < a) (h : a < 2 ^ 128 - 2 ^ 103) :
    ∃ m x, CanonicalUnits m x ∧ (roundHalfEven (a / ulp32 a) : Rat) * ulp32 a = (m : Rat) * 2 ^ x := by
  have hx := lastPlace_le h0 (h.trans (by norm_num))
  have hlo := le_lastPlace a
  have hnonneg : 0 ≤ roundHalfEven (a / ulp32 a) := le_roundHalfEven (by have := ulp32_pos a; positivity)
  have hle : roundHalfEven (a / ulp32 a) ≤ 2 ^ 24 := roundHalfEven_le (by exact_mod_cast div_ulp32_lt a)
  obtain ⟨n, hn⟩ := Int.eq_ofNat_of_zero_le hnonneg
  rw [hn, ulp32_eq_lastPlace]
  by_cases htop : n = 2 ^ 24
  · have hne : lastPlace a ≠ 104 := by
      intro hc
      have hlt : roundHalfEven (a / ulp32 a) < 2 ^ 24 := by
        refine roundHalfEven_lt ?_
        rw [ulp32_eq_lastPlace, hc, div_lt_iff₀ (by positivity)]
        exact h.trans_le (by norm_num)
      omega
    refine ⟨2 ^ 23, lastPlace a + 1, ⟨by decide, by omega, by omega, .inl le_rfl⟩, ?_⟩
    rw [htop, zpow_add_one₀ two_ne_zero]
    push_cast
    ring
  · refine ⟨n, lastPlace a, ⟨by omega, hlo, hx, ?_⟩, by norm_cast⟩
    by_cases hl : lastPlace a = -149
    · exact .inr hl
    · have : 2 ^ 23 ≤ roundHalfEven (a / ulp32 a) :=
        le_roundHalfEven (by exact_mod_cast le_div_ulp32_of_lastPlace h0 hl)
      exact .inl (by omega)

/-- No binary32 magnitude is nearer than the rounded one: in units as coarse it is a multiple of the unit, and in finer
units it lies below the least normal magnitude `2 ^ 23` units, which is at most `a`. -/
theorem abs_rounded_sub_le_magnitude {a : Rat} (h0 : 0 < a) {m : Nat} {x : Int} (h : CanonicalUnits m x) :
    |(roundHalfEven (a / ulp32 a) : Rat) * ulp32 a - a| ≤ |(m : Rat) * 2 ^ x - a| := by
  by_cases hx : lastPlace a ≤ x
  · obtain ⟨d, hd⟩ := Int.le.dest hx
    have hk : (m : Rat) * 2 ^ x = ((m * 2 ^ d : Int) : Rat) * ulp32 a := by
      rw [ulp32_eq_lastPlace, ← hd, zpow_add₀ two_ne_zero]
      push_cast
      rw [zpow_natCast]
      ring
    rw [hk]
    exact abs_rounded_sub_le (ulp32_pos a) _
  · have hx := not_le.1 hx
    have hle := h.le_exponent
    have hnormal : 2 ^ 23 * ulp32 a ≤ a := by
      rw [← le_div_iff₀ (ulp32_pos a)]
      exact le_div_ulp32_of_lastPlace h0 (by omega)
    have hbelow : (m : Rat) * 2 ^ x ≤ 2 ^ 23 * ulp32 a := by
      calc (m : Rat) * 2 ^ x ≤ 2 ^ (x + 24) := (magnitude_lt_zpow h.lt).le
        _ ≤ 2 ^ (23 + lastPlace a) := zpow_le_zpow_right₀ (by norm_num) (by omega)
        _ = 2 ^ 23 * ulp32 a := zpow_add₀ two_ne_zero 23 _
    calc |(roundHalfEven (a / ulp32 a) : Rat) * ulp32 a - a| ≤ |((2 ^ 23 : Int) : Rat) * ulp32 a - a| :=
          abs_rounded_sub_le (ulp32_pos a) _
      _ = a - 2 ^ 23 * ulp32 a := by
        rw [abs_sub_comm, abs_of_nonneg (by push_cast; linarith)]
        push_cast
        rfl
      _ ≤ a - (m : Rat) * 2 ^ x := by linarith
      _ ≤ |(m : Rat) * 2 ^ x - a| := by
        rw [abs_sub_comm]
        exact le_abs_self _

/-- A finite result of rounding is the value of a finite pattern. -/
theorem exists_pattern_of_rne32 {q r : Rat} (h : rne32 q = .fin r) : ∃ p, isFinite p = true ∧ val32 p = r := by
  obtain ⟨-, rfl⟩ | ⟨h0, hlt, rfl⟩ := rne32_eq_fin h
  · exact ⟨0#32, by decide, (val32_eq_zero_iff (by decide)).2 (by decide)⟩
  · obtain ⟨m, x, hc, hm⟩ := exists_canonicalUnits_rounded (abs_pos.2 h0) hlt
    refine ⟨patternOf (decide (q < 0)) m x, hc.isFinite_patternOf _, ?_⟩
    rw [hc.val32_patternOf, hm]
    unfold ratSign
    by_cases hq : q < 0 <;> simp [hq]

/-- A finite result of rounding is nearest among the finite patterns' values. -/
theorem rne32_nearest {q r : Rat} (h : rne32 q = .fin r) {p : Pattern} (hp : isFinite p = true) :
    |r - q| ≤ |val32 p - q| := by
  obtain ⟨rfl, rfl⟩ | ⟨h0, -, rfl⟩ := rne32_eq_fin h
  · simp
  · calc |(ratSign q : Rat) * ((roundHalfEven (|q| / ulp32 |q|) : Rat) * ulp32 |q|) - q|
        = abs ((roundHalfEven (|q| / ulp32 |q|) : Rat) * ulp32 |q| - |q|) := abs_ratSign_mul_sub q _
      _ ≤ abs ((significand p : Rat) * 2 ^ unitExponent p - |q|) :=
        abs_rounded_sub_le_magnitude (abs_pos.2 h0) (canonicalUnits_of_isFinite hp)
      _ = abs (|val32 p| - |q|) := by rw [abs_val32 hp]
      _ ≤ |val32 p - q| := abs_abs_sub_abs_le _ _

end Nearest

/-- Settles O23: the magnitude is rounded to a multiple of its unit, and no binary32 magnitude lies nearer. -/
theorem roundingGivesTheNearestBinary32Value : Obligations.RoundingGivesTheNearestBinary32Value := by
  unfold Obligations.RoundingGivesTheNearestBinary32Value
  exact fun q r h => ⟨exists_pattern_of_rne32 h, fun p hp => rne32_nearest h hp⟩

/-! ## The exact sum in units of 2^-149 (40_sample_stream.md R110) -/

section ExactSum

/-- A finite sample counted in units of the least subnormal, `2 ^ -149`. -/
def leastUnits (p : Pattern) : Int :=
  (if p.msb then -1 else 1) * (significand p * 2 ^ (unitExponent p + 149).toNat)

theorem val32_eq_leastUnits {p : Pattern} (h : isFinite p = true) :
    val32 p = (leastUnits p : Rat) * 2 ^ (-149 : Int) := by
  have hle := (canonicalUnits_of_isFinite h).le_exponent
  have hx : (2 : Rat) ^ unitExponent p = 2 ^ (unitExponent p + 149).toNat * 2 ^ (-149 : Int) := by
    rw [← zpow_natCast, ← zpow_add₀ two_ne_zero]
    congr 1
    omega
  rw [val32_eq h, hx, leastUnits, patternSign]
  push_cast
  split_ifs <;> ring

/-- The largest finite magnitude is below `2 ^ 128`, which is `2 ^ 277` units. -/
theorem abs_leastUnits_le {p : Pattern} (h : isFinite p = true) : |leastUnits p| ≤ 2 ^ 277 - 1 := by
  have hc := canonicalUnits_of_isFinite h
  have hx : (unitExponent p + 149).toNat ≤ 253 := by have := hc.exponent_le; omega
  have hlt : significand p * 2 ^ (unitExponent p + 149).toNat < 2 ^ 277 :=
    calc significand p * 2 ^ (unitExponent p + 149).toNat
        < 2 ^ 24 * 2 ^ (unitExponent p + 149).toNat := by gcongr; exact hc.lt
      _ ≤ 2 ^ 24 * 2 ^ 253 := by gcongr; decide
      _ = 2 ^ 277 := by rw [← pow_add]
  have habs : |leastUnits p| = ((significand p * 2 ^ (unitExponent p + 149).toNat : Nat) : Int) := by
    rw [leastUnits, abs_mul, abs_of_nonneg (by positivity : (0 : Int) ≤ significand p * _)]
    split_ifs <;> simp
  rw [habs]
  exact Int.le_sub_one_of_lt (by exact_mod_cast hlt)

/-- The exact sum of finite samples is a whole number of least units, at most `2 ^ 277 - 1` for each sample. -/
theorem exactSum_eq_units {seq : List Pattern} (h : ∀ p ∈ seq, isFinite p = true) :
    ∃ z : Int, exactSum seq = (z : Rat) * 2 ^ (-149 : Int) ∧ |z| ≤ seq.length * (2 ^ 277 - 1) := by
  induction seq with
  | nil => exact ⟨0, by simp [exactSum], by simp only [List.length_nil, Nat.cast_zero, zero_mul, abs_zero, le_refl]⟩
  | cons p seq ih =>
    obtain ⟨hp, hseq⟩ := List.forall_mem_cons.1 h
    obtain ⟨z, hz, hb⟩ := ih hseq
    refine ⟨leastUnits p + z, ?_, ?_⟩
    · have : exactSum (p :: seq) = val32 p + exactSum seq := by simp [exactSum]
      rw [this, hz, val32_eq_leastUnits hp]
      push_cast
      ring
    · calc |leastUnits p + z| ≤ |leastUnits p| + |z| := abs_add_le _ _
        _ ≤ (2 ^ 277 - 1) + seq.length * (2 ^ 277 - 1) := add_le_add (abs_leastUnits_le hp) hb
        _ = ((p :: seq).length : Int) * (2 ^ 277 - 1) := by
          rw [List.length_cons, Nat.cast_succ, add_one_mul, add_comm]

end ExactSum

/-- Settles O20: `2 ^ k` samples of at most `2 ^ 277 - 1` units each stay below `2 ^ (277 + k)` units. -/
theorem exactSumFitsTheAccumulator : Obligations.ExactSumFitsTheAccumulator := by
  unfold Obligations.ExactSumFitsTheAccumulator
  intro k seq hlen hfin
  obtain ⟨z, hz, hb⟩ := exactSum_eq_units hfin
  have hone : (0 : Int) ≤ 2 ^ 277 - 1 := sub_nonneg.2 (one_le_pow₀ (by norm_num))
  have hlt : |z| < 2 ^ (277 + k) := by
    calc |z| ≤ seq.length * (2 ^ 277 - 1) := hb
      _ ≤ 2 ^ k * (2 ^ 277 - 1) := mul_le_mul_of_nonneg_right (by exact_mod_cast hlen) hone
      _ < 2 ^ k * 2 ^ 277 := by
        gcongr
        exact sub_one_lt _
      _ = 2 ^ (277 + k) := by rw [pow_add, mul_comm]
  exact ⟨z, hz, (abs_lt.1 hlt).1.le, (abs_lt.1 hlt).2⟩

end Sys2Proof.Machine

namespace Sys2Proof.Machine

/-! ## The state through one step (10_state.md)

What a command and an operation leave alone, then the invariants, the error bits, the outputs and the registers'
writers, each read off the effects a step can have (`step_effect`). -/

/-! ### What an operation leaves alone -/

section Frames

variable {b s t : State} {w : CmdWord}

/-- The state `s` with the registers and outputs of `t`: the build, the inputs and the inputs to come are those
of `s`. -/
def State.withRegistersOf (s t : State) : State :=
  { s with
    ts := t.ts, vs := t.vs, mcCount := t.mcCount, mcNext := t.mcNext, schState := t.schState, wakeAt := t.wakeAt,
    txFrame := t.txFrame, err := t.err, ledPulse := t.ledPulse, events := t.events }

/-- An operation writes registers and outputs only (20_memory.md R61). -/
theorem exec_eq_withRegistersOf {i : Instr} (h : exec i s = .next t) : t = s.withRegistersOf t := by
  cases i with
  | tempUpdate p => obtain rfl | ⟨-, rfl⟩ | rfl := execTempUpdate_next h <;> rfl
  | tempError => obtain rfl | rfl := execTempError_next h <;> rfl
  | voltUpdate p => obtain rfl | ⟨-, rfl⟩ | rfl := execVoltUpdate_next h <;> rfl
  | voltError => obtain rfl | rfl := execVoltError_next h <;> rfl
  | motion => obtain rfl | rfl | ⟨-, -, rfl⟩ := execMotion_next h <;> rfl
  | button => obtain rfl | ⟨-, -, rfl⟩ := execButton_next h <;> rfl
  | init => obtain rfl | ⟨-, -, -, rfl⟩ := execInit_next h <;> rfl
  | wake => obtain rfl | ⟨-, -, -, rfl⟩ := execWake_next h <;> rfl
  | txComplete ok =>
    obtain rfl | ⟨-, -, rfl⟩ | ⟨-, -, -, -, rfl⟩ | ⟨-, -, -, -, rfl⟩ := execTxComplete_next h <;> rfl
  | reset =>
    obtain rfl := execReset_next h
    rfl

/-! A command writes the streams, the motion counter, WAKE_AT and ERR only. -/

theorem CommandEffect.build_eq (h : CommandEffect b w t) : t.build = b.build := by cases h <;> rfl

theorem CommandEffect.schState_eq (h : CommandEffect b w t) : t.schState = b.schState := by cases h <;> rfl

theorem CommandEffect.txFrame_eq (h : CommandEffect b w t) : t.txFrame = b.txFrame := by cases h <;> rfl

theorem CommandEffect.ledPulse_eq (h : CommandEffect b w t) : t.ledPulse = b.ledPulse := by cases h <;> rfl

theorem CommandEffect.events_eq (h : CommandEffect b w t) : t.events = b.events := by cases h <;> rfl

theorem CommandEffect.now_eq (h : CommandEffect b w t) : t.now = b.now := by cases h <;> rfl

/-- A command other than MOTION leaves the motion counter alone (41_motion_counter.md R130). -/
theorem CommandEffect.motion_or_counter_eq (h : CommandEffect b w t) :
    decode w = .ok .motion ∨ (t.mcNext = b.mcNext ∧ t.mcCount = b.mcCount) := by
  cases h with
  | motionDebounced hd | motionCounted hd | motionUngated hd => exact .inl hd
  | error | tempPush | tempNonfinite | tempClear | voltPush | voltNonfinite | voltClear | button =>
    exact .inr ⟨rfl, rfl⟩

theorem StepEffect.build_eq {s' : State} (h : StepEffect s s') : s'.build = s.build := by
  cases h with
  | command _ _ _ _ w q _ t ht => exact ht.build_eq
  | reset | spuriousAck | success | failure | init | wake | wait => rfl

end Frames

/-- Settles O53: an operation writes registers and outputs only. -/
theorem operationsLeaveThePortsAlone : Obligations.OperationsLeaveThePortsAlone := by
  unfold Obligations.OperationsLeaveThePortsAlone
  intro i s t h
  rw [exec_eq_withRegistersOf h]
  exact ⟨rfl, rfl, rfl, rfl, rfl, rfl, rfl, rfl, rfl⟩

/-! ### The bounds of the streams and times -/

section Bounds

variable {b s s' t : State} {w : CmdWord}

theorem State.Inv.hasRoom (h : s.Inv) : 1 ≤ s.build.n := by
  have hb := h.buildOk
  simp only [Build.wf, Build.hasCapacity, Bool.and_eq_true, decide_eq_true_eq] at hb
  exact hb.1.1

theorem State.Inv.nextEdge (h : s.Inv) : s.nextEdge.Inv := { h with nowFits := advanceNow_lt h.nowFits _ }

theorem inv_resetRegisters (hb : s.build.wf = true) (hn : s.now < 2 ^ s.build.tickW) : s.resetRegisters.Inv where
  buildOk := hb
  tsOk := streamOk_nil _
  vsOk := streamOk_nil _
  mcNextFits := Nat.two_pow_pos _
  wakeAtFits := Nat.two_pow_pos _
  nowFits := hn

/-- A command pushes finite samples only, into a stream with room, and plans only times that fit. -/
theorem CommandEffect.inv (he : CommandEffect b w t) (h : b.Inv) : t.Inv := by
  cases he with
  | tempPush p _ hp => exact { h with tsOk := streamOk_push h.hasRoom h.tsOk hp }
  | voltPush p _ hp => exact { h with vsOk := streamOk_push h.hasRoom h.vsOk hp }
  | tempClear => exact { h with tsOk := streamOk_nil _ }
  | voltClear => exact { h with vsOk := streamOk_nil _ }
  | motionCounted _ _ _ hf => exact { h with mcNextFits := hf }
  | button _ hf => exact { h with wakeAtFits := hf }
  | error | tempNonfinite | voltNonfinite | motionDebounced | motionUngated => exact { h with }

theorem StepEffect.inv (he : StepEffect s s') (h : s.Inv) : s'.Inv := by
  have hb : s.beginStep.Inv := { h with }
  cases he with
  | reset => exact (inv_resetRegisters hb.buildOk hb.nowFits).nextEdge
  | success _ _ _ _ hf | failure _ _ _ _ hf | init _ _ _ hf => exact .nextEdge { hb with wakeAtFits := hf }
  | command _ _ _ _ w q _ t ht =>
    have hd : t.dropCommand.Inv := { ht.inv hb with }
    exact hd.nextEdge
  | spuriousAck => exact { hb with }
  | wake => exact .nextEdge { hb with }
  | wait => exact hb.nextEdge

end Bounds

/-- Settles O56: each effect of a step keeps the bounds. -/
theorem everyStepKeepsTheInvariant : Obligations.EveryStepKeepsTheInvariant := by
  unfold Obligations.EveryStepKeepsTheInvariant
  exact fun s s' hi h => (step_effect h).inv hi

/-! ### Requests and answers -/

section Answers

variable {s s' t : State}

/-- Without an event the counts stay, and the invariant does if no request opens. -/
theorem State.AnswerInv.of_events_eq (h : s.AnswerInv) (he : t.events = s.events)
    (hs : t.schState = .waitTx → s.schState = .waitTx) : t.AnswerInv := by
  have hreq : t.requests = s.requests := by simp [State.requests, he]
  have hsucc : t.successes = s.successes := by simp [State.successes, he]
  unfold State.AnswerInv at *
  rw [hreq, hsucc]
  by_cases ht : t.schState = .waitTx
  · simpa only [ht, hs ht] using h
  · rw [if_neg ht]
    omega

/-- A request may be open after a TxRequest, where none was open before. -/
theorem State.AnswerInv.of_txRequest {f : Frame} {n : Nat} (h : s.AnswerInv) (hs : s.schState ≠ .waitTx)
    (he : t.events = s.events ++ [.txRequest f n]) : t.AnswerInv := by
  have hreq : t.requests = s.requests + 1 := by simp [State.requests, he]
  have hsucc : t.successes = s.successes := by simp [State.successes, he]
  unfold State.AnswerInv at *
  rw [if_neg hs] at h
  rw [hreq, hsucc]
  split_ifs <;> omega

/-- The success answers the request that was open. -/
theorem State.AnswerInv.of_ledPulse {n : Nat} (h : s.AnswerInv) (hs : s.schState = .waitTx)
    (he : t.events = s.events ++ [.ledPulse n]) (ht : t.schState ≠ .waitTx) : t.AnswerInv := by
  have hreq : t.requests = s.requests := by simp [State.requests, he]
  have hsucc : t.successes = s.successes + 1 := by simp [State.successes, he]
  unfold State.AnswerInv at *
  rw [if_pos hs] at h
  rwa [hreq, hsucc, if_neg ht]

/-- WAKE opens a request where none is open, and a success answers the one that is (30_encoding.md R78). -/
theorem StepEffect.answerInv (he : StepEffect s s') (h : s.AnswerInv) : s'.AnswerInv := by
  cases he with
  | success _ _ hs => exact h.of_ledPulse hs rfl (by simp)
  | wake _ _ hs => exact h.of_txRequest (by simp [hs]) rfl
  | reset | failure | init => exact h.of_events_eq rfl (by simp)
  | spuriousAck | wait => exact h.of_events_eq rfl id
  | command _ _ _ _ w q _ t ht => exact h.of_events_eq ht.events_eq (ht.schState_eq ▸ id)

end Answers

/-- Settles O59: the counts move only at WAKE and at a success, together with the open request. -/
theorem everyStepKeepsAnswersBehindRequests : Obligations.EveryStepKeepsAnswersBehindRequests := by
  unfold Obligations.EveryStepKeepsAnswersBehindRequests
  exact fun s s' hi h => (step_effect h).answerInv hi

/-- Settles O60: the registers reset are within the bounds, in IDLE and at their reset values. -/
theorem resetMeetsTheInvariants : Obligations.ResetMeetsTheInvariants := by
  unfold Obligations.ResetMeetsTheInvariants
  have hidle (s : State) : s.resetRegisters.SnapshotInv ∧ s.resetRegisters.IdleInv := by
    simp [State.SnapshotInv, State.IdleInv]
  have hreset : State.reset = State.reset.resetRegisters := rfl
  refine ⟨fun s hb hn => ⟨inv_resetRegisters hb hn, (hidle s).1, (hidle s).2,
    fun h => h.of_events_eq rfl (by simp)⟩, ?_⟩
  rw [hreset]
  exact ⟨inv_resetRegisters (by decide) (by decide), (hidle _).1, (hidle _).2, Nat.le_refl 0⟩

/-! ### The error bits -/

/-- A command sets ERR bits only. -/
theorem CommandEffect.err_keeps {b t : State} {w : CmdWord} {k : Nat} (he : CommandEffect b w t)
    (h : b.err.getLsbD k = true) : t.err.getLsbD k = true := by
  cases he with
  | error | tempNonfinite | voltNonfinite => exact setErrBit_keeps h
  | tempPush | tempClear | voltPush | voltClear | motionDebounced | motionCounted | motionUngated | button => exact h

/-- Settles O45: a step other than reset leaves ERR alone or sets a bit of it. -/
theorem errBitsAreSticky : Obligations.ErrBitsAreSticky := by
  unfold Obligations.ErrBitsAreSticky
  intro s s' k h hrst hk
  cases step_effect h with
  | reset hr => simp [hrst] at hr
  | spuriousAck => exact setErrBit_keeps hk
  | command _ _ _ _ w q _ t ht => exact ht.err_keeps hk
  | success | failure | init | wake | wait => exact hk

/-! ### The outputs -/

/-- Settles O49: each step lowers `led_pulse` first, and only the success branch raises it. -/
theorem ledPulseMarksExactlyTheSuccesses : Obligations.LedPulseMarksExactlyTheSuccesses := by
  unfold Obligations.LedPulseMarksExactlyTheSuccesses
  intro s s' h
  cases step_effect h with
  | reset hr => simp [hr]
  | spuriousAck _ _ hs => simp [hs]
  | success hr ha hs ho => simp [hr, ha, hs, ho]
  | failure _ _ _ ho => simp [ho]
  | init _ ha | wake _ ha | wait _ ha => simp [ha]
  | command _ ha _ _ w q _ t ht => simp [ha, ht.ledPulse_eq]

/-- Settles O50: WAKE and the success branch each append one event, and no other effect appends any. -/
theorem outputTraceRecordsTheEvents : Obligations.OutputTraceRecordsTheEvents := by
  unfold Obligations.OutputTraceRecordsTheEvents
  intro s s' h
  cases step_effect h with
  | reset hr => simp [hr]
  | spuriousAck _ ha hs => simp [ha, hs]
  | success hr ha hs ho => simp [hr, ha, hs, ho]
  | failure _ ha _ ho => simp [ha, ho]
  | init _ ha hs => simp [ha, hs]
  | wake hr ha hs hw ht => simp [hr, ha, hs, hw, ht]
  | command _ ha _ hw w q _ t ht =>
    have hn : ¬(s.wakeAt ≤ s.now ∧ s.wakeTurn = true) := by
      rintro ⟨hle, htrue⟩
      simp [htrue, Nat.not_lt.2 hle] at hw
    simp [ha, hn, ht.events_eq]
  | wait _ ha hs =>
    have hn : ¬(s.schState = .pending ∧ s.wakeAt ≤ s.now ∧ s.wakeTurn = true) := by
      rintro ⟨hp, hle, htrue⟩
      simp [hp, htrue, Nat.not_lt.2 hle] at hs
    simp [ha, hn]

/-! ### The writers of the registers -/

/-- Settles O52: a command that is not MOTION leaves the counter alone, and TX_FRAME is WAKE's. -/
theorem registersHaveOnlyTheirWriters : Obligations.RegistersHaveOnlyTheirWriters := by
  unfold Obligations.RegistersHaveOnlyTheirWriters
  intro s s' h
  have he : StepEffect s s' := step_effect h
  refine ⟨he.build_eq, fun hrst => ?_⟩
  cases he with
  | reset hr => simp [hrst] at hr
  | success _ ha hs ho => exact ⟨absurd rfl, fun _ => .inr ⟨hs, ha, ho⟩, absurd rfl⟩
  | wake _ _ hs hw => exact ⟨absurd rfl, absurd rfl, fun _ => ⟨hs, hw, rfl⟩⟩
  | command hr ha hs hw w q hq t ht =>
    have hacc : s.Accepts w := ⟨by simp [hq], hs, hr, ha, hw⟩
    obtain hd | ⟨hnext, hcount⟩ := ht.motion_or_counter_eq
    · exact ⟨fun _ => ⟨w, hacc, hd⟩, fun _ => .inl ⟨w, hacc, hd⟩, absurd ht.txFrame_eq⟩
    · exact ⟨absurd hnext, absurd hcount, absurd ht.txFrame_eq⟩
  | spuriousAck | failure | init | wait => exact ⟨absurd rfl, absurd rfl, absurd rfl⟩

/-! ### Time and the commands on offer -/

/-- Settles O54: an edge moves NOW forward and appends to the queue, and only an accepted command leaves it. -/
theorem timeAndOfferedCommandsArePreserved : Obligations.TimeAndOfferedCommandsArePreserved := by
  unfold Obligations.TimeAndOfferedCommandsArePreserved
  intro s s' h
  cases step_effect h with
  | spuriousAck => exact ⟨le_rfl, .inl (List.prefix_refl _)⟩
  | command hr _ hs _ w q hq t ht =>
    have hnow : t.dropCommand.now = s.now := ht.now_eq
    have hqueue : t.dropCommand.cmdQueue = s.cmdQueue.tail := congrArg List.tail ht.cmdQueue_eq
    exact ⟨hnow ▸ le_advanceNow _ _ _, .inr ⟨hs, hr, by simp [hq], hqueue ▸ List.prefix_append _ _⟩⟩
  | reset | success | failure | init | wake | wait =>
    exact ⟨le_advanceNow _ _ _, .inl (List.prefix_append _ _)⟩

/-! ### The observation port -/

/-- A concatenation as a number. -/
theorem append_toNat_mul {m n : Nat} (x : BitVec m) (y : BitVec n) :
    (x ++ y).toNat = x.toNat * 2 ^ n + y.toNat := by
  rw [BitVec.toNat_append, ← Nat.shiftLeft_add_eq_or_of_lt y.isLt, Nat.shiftLeft_eq]

/-- The fields of STATUS with their lengths, for streams of at most 15 samples (10_state.md R34). -/
theorem status_toNat {s : State} (hb : s.build.fitsStatus = true) (hts : s.ts.length ≤ s.build.n)
    (hvs : s.vs.length ≤ s.build.n) :
    s.status.toNat =
      s.mcCount.toNat * 2 ^ 16 + s.vs.length * 2 ^ 12 + s.ts.length * 2 ^ 8 + s.err.toNat * 2 ^ 4 +
        s.schState.code.toNat := by
  have hn : s.build.n ≤ 15 := of_decide_eq_true hb
  simp only [State.status, hb, if_true, append_toNat_mul, BitVec.toNat_ofNat,
    Nat.mod_eq_of_lt (show s.ts.length < 2 ^ 4 by omega), Nat.mod_eq_of_lt (show s.vs.length < 2 ^ 4 by omega)]
  omega

/-- Settles O47: a stream of at most 15 samples shows its length in four bits. -/
theorem statusShowsTheRegisters : Obligations.StatusShowsTheRegisters := by
  unfold Obligations.StatusShowsTheRegisters
  refine ⟨by decide, fun s hb hts hvs => ?_⟩
  rw [status_toNat hb hts hvs]
  cases s.schState <;> rfl

/-- Settles O48: a time within TICK_W bits shows as it is, and a valid entry is the sample held there. -/
theorem observationPortShowsTheState : Obligations.ObservationPortShowsTheState := by
  unfold Obligations.ObservationPortShowsTheState
  intro s hi
  refine ⟨?_, ?_, fun k => ⟨?_, ?_, fun h => ?_, fun h => ?_⟩⟩
  · exact (BitVec.toNat_ofNat _ _).trans (Nat.mod_eq_of_lt hi.wakeAtFits)
  · exact (BitVec.toNat_ofNat _ _).trans (Nat.mod_eq_of_lt hi.mcNextFits)
  · exact decide_eq_true_iff
  · exact decide_eq_true_iff
  · simp [State.obsTs, h]
  · simp [State.obsVs, h]

end Sys2Proof.Machine

namespace Sys2Proof

/-! ## The decoder and the encoder (30_encoding.md)

What `decode` answers for each opcode of R80, then the two round trips with `encode`. -/

section Decoder

variable {w : CmdWord}

/-! ### One equation per opcode -/

theorem decode_tempUpdate (h : opcodeField w = 0x01#8) : decode w = .ok (.tempUpdate (payloadField w)) := by
  simp [decode, h]

theorem decode_tempError (h : opcodeField w = 0x02#8) : decode w = decodeBare .tempError (payloadField w) := by
  simp [decode, h]

theorem decode_voltUpdate (h : opcodeField w = 0x03#8) : decode w = .ok (.voltUpdate (payloadField w)) := by
  simp [decode, h]

theorem decode_voltError (h : opcodeField w = 0x04#8) : decode w = decodeBare .voltError (payloadField w) := by
  simp [decode, h]

theorem decode_motion (h : opcodeField w = 0x05#8) : decode w = decodeBare .motion (payloadField w) := by
  simp [decode, h]

theorem decode_button (h : opcodeField w = 0x06#8) : decode w = decodeBare .button (payloadField w) := by
  simp [decode, h]

/-- The opcodes outside R74's table (R75). -/
theorem decode_illegalOpcode (h : w.toNat / 2 ^ 32 = 0 ∨ 7 ≤ w.toNat / 2 ^ 32) :
    decode w = .error .illegalOpcode := by
  have hne (k : BitVec 8) (hk : 1 ≤ k.toNat ∧ k.toNat ≤ 6) : opcodeField w ≠ k := by
    rw [Ne, opcodeField_eq_iff]
    omega
  simp only [decode, hne 0x01#8 (by decide), hne 0x02#8 (by decide), hne 0x03#8 (by decide), hne 0x04#8 (by decide),
    hne 0x05#8 (by decide), hne 0x06#8 (by decide), if_false]

theorem decodeBare_zero (i : Instr) : decodeBare i 0#32 = .ok i := if_pos rfl

theorem decodeBare_of_payload (i : Instr) (hp : w.toNat % 2 ^ 32 ≠ 0) :
    decodeBare i (payloadField w) = .error .reservedPayload :=
  if_neg (mt (payloadField_eq_zero_iff w).1 hp)

/-- A command without a sample that carries a payload (R76). -/
theorem decode_reservedPayload
    (h : w.toNat / 2 ^ 32 = 2 ∨ w.toNat / 2 ^ 32 = 4 ∨ w.toNat / 2 ^ 32 = 5 ∨ w.toNat / 2 ^ 32 = 6)
    (hp : w.toNat % 2 ^ 32 ≠ 0) : decode w = .error .reservedPayload := by
  obtain h | h | h | h := h
  · rw [decode_tempError ((opcodeField_eq_iff w _).2 h), decodeBare_of_payload _ hp]
  · rw [decode_voltError ((opcodeField_eq_iff w _).2 h), decodeBare_of_payload _ hp]
  · rw [decode_motion ((opcodeField_eq_iff w _).2 h), decodeBare_of_payload _ hp]
  · rw [decode_button ((opcodeField_eq_iff w _).2 h), decodeBare_of_payload _ hp]

/-- Every opcode is one of the six in R74's table or an illegal one. -/
theorem opcode_cases (w : CmdWord) :
    opcodeField w = 0x01#8 ∨ opcodeField w = 0x02#8 ∨ opcodeField w = 0x03#8 ∨ opcodeField w = 0x04#8 ∨
      opcodeField w = 0x05#8 ∨ opcodeField w = 0x06#8 ∨ w.toNat / 2 ^ 32 = 0 ∨ 7 ≤ w.toNat / 2 ^ 32 := by
  simp only [opcodeField_eq_iff, BitVec.reduceToNat]
  omega

/-! ### From a word back to its parts -/

theorem commandWord_of_opcode {k : BitVec 8} (h : opcodeField w = k) : commandWord k (payloadField w) = w :=
  h ▸ commandWord_fields w

/-- A word that decodes to a command without a sample is its opcode with payload zero. -/
theorem encode_of_decodeBare {k : BitVec 8} {i j : Instr} (h : opcodeField w = k)
    (hd : decodeBare i (payloadField w) = .ok j) (he : encode i = some (commandWord k 0#32)) : encode j = some w := by
  obtain ⟨hp, rfl⟩ := (decodeBare_ok_iff _ _ _).1 hd
  rw [he, ← hp, commandWord_of_opcode h]

/-- A word that decodes to a command is the one `encode` gives for it. -/
theorem encode_of_decode {i : Instr} (hd : decode w = .ok i) : encode i = some w := by
  obtain h | h | h | h | h | h | h := opcode_cases w
  · cases (decode_tempUpdate h).symm.trans hd
    exact congrArg some (commandWord_of_opcode h)
  · exact encode_of_decodeBare h ((decode_tempError h).symm.trans hd) rfl
  · cases (decode_voltUpdate h).symm.trans hd
    exact congrArg some (commandWord_of_opcode h)
  · exact encode_of_decodeBare h ((decode_voltError h).symm.trans hd) rfl
  · exact encode_of_decodeBare h ((decode_motion h).symm.trans hd) rfl
  · exact encode_of_decodeBare h ((decode_button h).symm.trans hd) rfl
  · cases (decode_illegalOpcode h).symm.trans hd

end Decoder

/-- Settles O1: by the equation of the operation's opcode, each field read back from the word assembled. -/
theorem decodeOfEncodeIsIdentity : Obligations.DecodeOfEncodeIsIdentity := by
  unfold Obligations.DecodeOfEncodeIsIdentity
  intro i hi
  cases i with
  | tempUpdate p => exact ⟨_, rfl, by simp [decode_tempUpdate]⟩
  | tempError => exact ⟨_, rfl, by simp [decode_tempError, decodeBare_zero]⟩
  | voltUpdate p => exact ⟨_, rfl, by simp [decode_voltUpdate]⟩
  | voltError => exact ⟨_, rfl, by simp [decode_voltError, decodeBare_zero]⟩
  | motion => exact ⟨_, rfl, by simp [decode_motion, decodeBare_zero]⟩
  | button => exact ⟨_, rfl, by simp [decode_button, decodeBare_zero]⟩
  | init | wake | txComplete | reset => cases hi

/-- Settles O2: a decoded command has a word, and it is this one. -/
theorem encodeOfDecodeIsIdentity : Obligations.EncodeOfDecodeIsIdentity := by
  unfold Obligations.EncodeOfDecodeIsIdentity
  exact fun w i hd => ⟨Machine.decode_isCommand hd, encode_of_decode hd⟩

/-- Settles O3: the equations of the decoder, with the two fields as numbers. -/
theorem decoderFollowsOpcodeMap : Obligations.DecoderFollowsOpcodeMap := by
  unfold Obligations.DecoderFollowsOpcodeMap
  intro w
  have hopc {k : BitVec 8} (h : w.toNat / 2 ^ 32 = k.toNat) : opcodeField w = k := (opcodeField_eq_iff w k).2 h
  have hsample : payloadField w = BitVec.ofNat 32 (w.toNat % 2 ^ 32) := by
    rw [← payloadField_toNat, BitVec.ofNat_toNat, BitVec.setWidth_eq]
  have hbare (i : Instr) (hp : w.toNat % 2 ^ 32 = 0) : decodeBare i (payloadField w) = .ok i :=
    (decodeBare_ok_iff _ _ _).2 ⟨(payloadField_eq_zero_iff w).2 hp, rfl⟩
  exact ⟨fun h => hsample ▸ decode_tempUpdate (hopc h), fun h => hsample ▸ decode_voltUpdate (hopc h),
    fun h hp => (decode_tempError (hopc h)).trans (hbare _ hp),
    fun h hp => (decode_voltError (hopc h)).trans (hbare _ hp),
    fun h hp => (decode_motion (hopc h)).trans (hbare _ hp),
    fun h hp => (decode_button (hopc h)).trans (hbare _ hp),
    decode_reservedPayload, decode_illegalOpcode⟩

end Sys2Proof

namespace Sys2Proof.Machine

/-! ## The step of a command word and of the other operations (30_encoding.md R75 to R79, 60_exceptions.md R248) -/

section Moves

variable {s : State}

/-- Accepting a word leaves what stands behind it in the queue. -/
theorem step_of_accepts {w : CmdWord} {q : List CmdWord} (hq : s.cmdQueue = w :: q) (hs : s.schState = .pending)
    (hr : s.rst = false) (ha : s.txAck = false) (hw : s.wakeTurn = false ∨ s.now < s.wakeAt) :
    step s = thenNextEdge (thenRun (acceptWord w s.beginStep) fun t => .next { t with cmdQueue := q }) := by
  have hp : pick s = some (.inr w) := by rw [pick_command hr ha hs hw, hq]; rfl
  rw [step_of_pick_command hp ha]
  cases he : acceptWord w s.beginStep with
  | next t =>
    have heff : CommandEffect s.beginStep w t := acceptWord_effect hs hr he
    simp only [thenRun, heff.dropCommand_eq hq]
  | fault f => rfl
  | refused r => rfl

/-- An accepted word that spells no command raises its error and is dropped (R75, R76). -/
theorem step_of_decode_error {w : CmdWord} {q : List CmdWord} {e : DecodeError} (hd : decode w = .error e)
    (hq : s.cmdQueue = w :: q) (hs : s.schState = .pending) (hr : s.rst = false) (ha : s.txAck = false)
    (hw : s.wakeTurn = false ∨ s.now < s.wakeAt) :
    step s = .next ({ s.beginStep.raiseError (causeOf e) with cmdQueue := q } : State).nextEdge := by
  rw [step_of_accepts hq hs hr ha hw, acceptWord_error hd]
  rfl

/-- The step of an operation without a command word, where it is not the SPURIOUS_ACK step. -/
theorem step_of_pick_operation {i : Instr} (hp : pick s = some (.inl i)) (hn : s.ackIsSpurious = false) :
    step s = thenNextEdge (exec i s.beginStep) := by
  have hs (t : State) : settle s t = t.nextEdge := by simp [settle, hn, hp]
  simp only [step, hp, perform, hs]
  cases exec i s.beginStep <;> rfl

theorem ackIsSpurious_of_rst (h : s.rst = true) : s.ackIsSpurious = false := by simp [State.ackIsSpurious, h]

theorem ackIsSpurious_of_no_ack (h : s.txAck = false) : s.ackIsSpurious = false := by simp [State.ackIsSpurious, h]

theorem ackIsSpurious_of_waitTx (h : s.schState = .waitTx) : s.ackIsSpurious = false := by
  simp [State.ackIsSpurious, h]

end Moves

/-- Settles O9: the word is accepted, and the decoder finds its opcode illegal. -/
theorem illegalOpcodeSetsErr0 : Obligations.IllegalOpcodeSetsErr0 := by
  unfold Obligations.IllegalOpcodeSetsErr0
  exact fun s w q hq hs hr ha hw hopc => step_of_decode_error (decode_illegalOpcode hopc) hq hs hr ha hw

/-- Settles O10: the word is accepted, and the decoder finds a payload with a command that has none. -/
theorem reservedPayloadSetsErr1 : Obligations.ReservedPayloadSetsErr1 := by
  unfold Obligations.ReservedPayloadSetsErr1
  exact fun s w q hq hs hr ha hw hopc hpay => step_of_decode_error (decode_reservedPayload hopc hpay) hq hs hr ha hw

/-- Settles O6: each edge picks its operation, and its ack is not spurious. -/
theorem stepRunsPortAndInternalOperations : Obligations.StepRunsPortAndInternalOperations := by
  unfold Obligations.StepRunsPortAndInternalOperations
  refine fun s => ⟨fun hr => ?_, fun hr ha hs => ?_, fun hr ha hs => ?_, fun hr ha hs hw ht => ?_⟩
  · exact step_of_pick_operation (pick_reset hr) (ackIsSpurious_of_rst hr)
  · exact step_of_pick_operation (pick_ack hr ha) (ackIsSpurious_of_waitTx hs)
  · exact step_of_pick_operation (pick_init hr ha hs) (ackIsSpurious_of_no_ack ha)
  · exact step_of_pick_operation (pick_wake hr ha hs hw ht) (ackIsSpurious_of_no_ack ha)

/-! ## `tx_ok` without an ack (30_encoding.md R78) -/

section TxOk

/-- The state with another value on the port `tx_ok`. -/
def State.withTxOk (s : State) (b : Bool) : State := { s with txOk := b }

/-- A result with another value on the port `tx_ok`. -/
def resultWithTxOk (r : Result) (b : Bool) : Result := thenRun r fun t => .next (t.withTxOk b)

variable (s : State) (b : Bool)

/-- The port carries through a choice that does not read it. -/
theorem ite_withTxOk {c : Prop} [Decidable c] {r₁ r₂ r₁' r₂' : Result} (h₁ : r₁' = resultWithTxOk r₁ b)
    (h₂ : r₂' = resultWithTxOk r₂ b) : (if c then r₁' else r₂') = resultWithTxOk (if c then r₁ else r₂) b := by
  split <;> assumption

theorem whenAccepted_withTxOk {r r' : Result} (h : r' = resultWithTxOk r b) :
    whenAccepted (s.withTxOk b) r' = resultWithTxOk (whenAccepted s r) b :=
  ite_withTxOk b h rfl

theorem withTime_withTxOk {bd : Build} {base off : Nat} {k k' : Nat → State} (h : ∀ n, k' n = (k n).withTxOk b) :
    withTime bd base off k' = resultWithTxOk (withTime bd base off k) b :=
  ite_withTxOk b (congrArg _ (h _)) rfl

/-- No operation reads the port: TX_COMPLETE has the answer as its operand. -/
theorem exec_withTxOk (i : Instr) : exec i (s.withTxOk b) = resultWithTxOk (exec i s) b := by
  cases i with
  | tempUpdate p | voltUpdate p => exact whenAccepted_withTxOk s b (ite_withTxOk b rfl rfl)
  | tempError | voltError => exact whenAccepted_withTxOk s b rfl
  | motion =>
    exact whenAccepted_withTxOk s b (ite_withTxOk b (ite_withTxOk b rfl (withTime_withTxOk b fun _ => rfl)) rfl)
  | button => exact whenAccepted_withTxOk s b (withTime_withTxOk b fun _ => rfl)
  | init => exact ite_withTxOk b (withTime_withTxOk b fun _ => rfl) rfl
  | wake => exact ite_withTxOk b rfl rfl
  | txComplete ok =>
    exact ite_withTxOk b rfl (ite_withTxOk b (ite_withTxOk b (withTime_withTxOk b fun _ => rfl)
      (withTime_withTxOk b fun _ => rfl)) rfl)
  | reset => rfl

theorem acceptWord_withTxOk (w : CmdWord) : acceptWord w (s.withTxOk b) = resultWithTxOk (acceptWord w s) b := by
  cases hd : decode w with
  | ok i => simp only [acceptWord_ok hd, exec_withTxOk]
  | error e =>
    simp only [acceptWord_error hd]
    rfl

theorem perform_withTxOk (m : Move) : perform m (s.withTxOk b) = resultWithTxOk (perform m s) b := by
  match m with
  | none => rfl
  | some (.inl i) => exact exec_withTxOk s b i
  | some (.inr w) => exact acceptWord_withTxOk s b w

variable {s}

theorem pick_withTxOk (ha : s.txAck = false) : pick (s.withTxOk b) = pick s := by
  have hb : (s.withTxOk b).txAck = false := ha
  simp only [pick, ha, hb]
  rfl

/-- Without an ack the step ends in a new edge, which sets the port anew. -/
theorem settle_withTxOk (ha : s.txAck = false) (t : State) : settle (s.withTxOk b) (t.withTxOk b) = settle s t := by
  have hb : (s.withTxOk b).txAck = false := ha
  simp only [settle, pick_withTxOk b ha, ackIsSpurious_of_no_ack ha, ackIsSpurious_of_no_ack hb]
  rfl

end TxOk

/-- Settles O55: move and settled state do not depend on the port. -/
theorem txOkIsIgnoredWithoutAck : Obligations.TxOkIsIgnoredWithoutAck := by
  unfold Obligations.TxOkIsIgnoredWithoutAck
  intro s b ha
  change step (s.withTxOk b) = step s
  have hm : perform (pick (s.withTxOk b)) (s.withTxOk b).beginStep =
      resultWithTxOk (perform (pick s) s.beginStep) b := by
    rw [pick_withTxOk b ha]
    exact perform_withTxOk s.beginStep b _
  rw [step, step, hm]
  cases perform (pick s) s.beginStep with
  | next t => exact congrArg _ (settle_withTxOk b ha t)
  | fault f => rfl
  | refused r => rfl

end Sys2Proof.Machine

namespace Sys2Proof.Machine

/-! ## A due WAKE and an offered command (43_report_scheduler.md R185, R186) -/

section Turns

variable {b s s' t : State} {w : CmdWord}

theorem CommandEffect.script_eq (h : CommandEffect b w t) : t.script = b.script := by cases h <;> rfl

theorem CommandEffect.wakeTurn_eq (h : CommandEffect b w t) : t.wakeTurn = b.wakeTurn := by cases h <;> rfl

/-- A command leaves a time that was reached reached, BUTTON too if it plans at NOW itself (R185). -/
theorem CommandEffect.wakeAt_le_now (h : CommandEffect b w t) (ho : b.build.buttonOffsetMs = 0)
    (hw : b.wakeAt ≤ b.now) : t.wakeAt ≤ t.now := by
  cases h with
  | button => exact Nat.le_of_eq (congrArg (b.now + ·) ho)
  | error | tempPush | tempNonfinite | tempClear | voltPush | voltNonfinite | voltClear | motionDebounced
  | motionCounted | motionUngated => exact hw

/-- What WAKE makes of a state, before the edge that follows (44_transmission_controller.md R210). -/
def State.woken (s : State) : State :=
  ((s.beginStep.setFrame (reportFrame s)).setSch .waitTx).emitTxRequest (reportFrame s)

@[simp] theorem State.woken_schState (s : State) : s.woken.schState = .waitTx := rfl

@[simp] theorem State.woken_cmdQueue (s : State) : s.woken.cmdQueue = s.cmdQueue := rfl

/-- The step that takes a due WAKE at its turn. -/
theorem step_wake (hs : s.schState = .pending) (hr : s.rst = false) (ha : s.txAck = false) (hw : s.wakeAt ≤ s.now)
    (ht : s.wakeTurn = true) : step s = .next s.woken.nextEdge := by
  have he : exec .wake s.beginStep = .next s.woken := if_pos (by simp [(wakeDue_iff s.beginStep).2 ⟨hs, hw⟩, hr])
  rw [step_of_pick_operation (pick_wake hr ha hs hw ht) (ackIsSpurious_of_no_ack ha), he]
  rfl

/-- The radio's answer takes the block back to PENDING, unless the time it plans does not fit. -/
theorem step_txComplete (hs : s.schState = .waitTx) (hr : s.rst = false) (ha : s.txAck = true)
    (hf : s.wakeAt + (if s.txOk then s.build.successMs else s.build.retryMs) < 2 ^ s.build.tickW) :
    ∃ t : State, step s = .next t.nextEdge ∧ t.schState = .pending ∧ t.cmdQueue = s.cmdQueue ∧ t.script = s.script ∧
      t.wakeTurn = s.wakeTurn := by
  have hb : s.beginStep.schState = .waitTx := hs
  have hbr : s.beginStep.rst = false := hr
  rw [step_of_pick_operation (pick_ack hr ha) (ackIsSpurious_of_waitTx hs)]
  cases ho : s.txOk <;> simp only [ho, if_true, Bool.false_eq_true, if_false] at hf <;>
    simp only [exec, execTxComplete, hb, hbr, if_true, Bool.false_eq_true, if_false]
  · exact ⟨_, congrArg thenNextEdge (withTime_of_fits hf _), rfl, rfl, rfl, rfl⟩
  · exact ⟨_, congrArg thenNextEdge (withTime_of_fits hf _), rfl, rfl, rfl, rfl⟩

/-- Past the script, the edge after WAKE's turn goes to the command port. -/
theorem nextEdge_accepts (hs : t.schState = .pending) (hn : t.script = []) (ht : t.wakeTurn = true)
    (hq : t.cmdQueue.head? = some w) : t.nextEdge.Accepts w := by
  have he : t.comingEdge = t.unscriptedEdge := comingEdge_of_nil hn
  refine ⟨?_, hs, ?_, ?_, .inl ?_⟩
  · simpa [he] using hq
  · simp [he]
  · simp [he, hs]
  · simp [he, unscriptedEdge_wakeTurn_pending hs, ht]

/-- Past the script, the edge after the command port's turn goes to WAKE. -/
theorem nextEdge_takes_wake (hs : t.schState = .pending) (hn : t.script = []) (ht : t.wakeTurn = false)
    (hw : t.wakeAt ≤ t.now) :
    t.nextEdge.wakeDue = true ∧ t.nextEdge.script = [] ∧ ∃ u, step t.nextEdge = .next u ∧ u.schState = .waitTx := by
  have he : t.comingEdge = t.unscriptedEdge := comingEdge_of_nil hn
  have hw' : t.nextEdge.wakeAt ≤ t.nextEdge.now := hw.trans (le_advanceNow _ _ _)
  refine ⟨(wakeDue_iff _).2 ⟨hs, hw'⟩, by simp [hn], _, step_wake hs ?_ ?_ hw' ?_, rfl⟩
  · simp [he]
  · simp [he, hs]
  · simp [he, unscriptedEdge_wakeTurn_pending hs, ht]

/-- A step goes to the next edge or is a SPURIOUS_ACK step. -/
theorem StepEffect.script_eq (h : StepEffect s s') :
    s'.script = s.script.tail ∨ (s.txAck = true ∧ s'.txAck = false ∧ s'.script = s.script) := by
  cases h with
  | spuriousAck _ ha => exact .inr ⟨ha, rfl, rfl⟩
  | command _ _ _ _ w q _ t ht => exact .inl (congrArg List.tail ht.script_eq)
  | reset | success | failure | init | wake | wait => exact .inl rfl

/-- Past the script, the report cycle that WAKE opens ends with the command port's turn, unless the answer is
refused. -/
theorem accepts_after_cycle (hn : s.script = []) (ht : s.wakeTurn = true) (hq : s.cmdQueue.head? = some w)
    (hf : s.wakeAt + (if s.woken.nextEdge.txOk then s.build.successMs else s.build.retryMs) < 2 ^ s.build.tickW) :
    ∃ u, step s.woken.nextEdge = .next u ∧ u.Accepts w := by
  have he : s.woken.comingEdge = s.woken.unscriptedEdge := comingEdge_of_nil hn
  obtain ⟨t, hstep, hs, hqueue, hscript, hturn⟩ :=
    step_txComplete (s := s.woken.nextEdge) rfl (by simp [he]) (by simp [he]) hf
  refine ⟨_, hstep, nextEdge_accepts hs (hscript.trans (congrArg List.tail hn)) (hturn.trans ?_) ?_⟩
  · exact (congrArg Edge.wakeTurn he).trans ((unscriptedEdge_wakeTurn_waitTx s.woken_schState).trans ht)
  · simpa [hqueue, he] using hq

/-- Past the script, an offered command that WAKE goes before is accepted after one report cycle (R186). -/
theorem command_follows_wake (hs : s.schState = .pending) (hr : s.rst = false) (ha : s.txAck = false)
    (hn : s.script = []) (hw : s.wakeAt ≤ s.now) (ht : s.wakeTurn = true) (hq : s.cmdQueue.head? = some w) :
    ∃ t, step s = .next t ∧ t.schState = .waitTx ∧ t.txAck = true ∧ t.wakeAt = s.wakeAt ∧ t.build = s.build ∧
      ((∃ u, step t = .next u ∧ u.Accepts w) ∨
        2 ^ s.build.tickW ≤ s.wakeAt + (if t.txOk then s.build.successMs else s.build.retryMs)) := by
  have he : s.woken.comingEdge = s.woken.unscriptedEdge := comingEdge_of_nil hn
  refine ⟨_, step_wake hs hr ha hw ht, rfl, by simp [he], rfl, rfl, ?_⟩
  obtain hf | hf := Nat.lt_or_ge (s.wakeAt + _) (2 ^ s.build.tickW)
  · exact .inl (accepts_after_cycle hn ht hq hf)
  · exact .inr hf

/-- Past the script, a due WAKE that yields its turn is due at the next edge and taken there (R185). -/
theorem wake_taken_at_next_edge (hs : s.schState = .pending) (hr : s.rst = false) (ha : s.txAck = false)
    (hn : s.script = []) (hw : s.wakeAt ≤ s.now) (ht : s.wakeTurn = false) (ho : s.build.buttonOffsetMs = 0)
    (h : StepEffect s s') :
    s'.wakeDue = true ∧ s'.script = [] ∧ ∃ u, step s' = .next u ∧ u.schState = .waitTx := by
  cases h with
  | command _ _ _ _ w q _ t he =>
    have hreached : t.wakeAt ≤ t.now := he.wakeAt_le_now ho hw
    exact nextEdge_takes_wake (t := t.dropCommand) (he.schState_eq.trans hs) (he.script_eq.trans hn)
      (he.wakeTurn_eq.trans ht) hreached
  | wait => exact nextEdge_takes_wake (t := s.beginStep) hs hn ht hw
  | reset h => simp [hr] at h
  | spuriousAck _ h | success _ h | failure _ h => simp [ha] at h
  | init _ _ h => simp [hs] at h
  | wake _ _ _ _ h => simp [ht] at h

end Turns

/-- Settles O11: `wakeTurn` picks the move, a step moves along the script, and past the script the turns alternate. -/
theorem dueWakeAndCommandGoEitherWay : Obligations.DueWakeAndCommandGoEitherWay := by
  unfold Obligations.DueWakeAndCommandGoEitherWay
  refine ⟨fun s w q hq hs hr ha hw => ⟨⟨_, step_wake hs hr ha hw rfl, rfl, ?_⟩, ?_⟩, fun s t h hne => ?_,
    fun s hs hr ha hn => ⟨fun w hq => ?_, fun hdue ho => ?_⟩⟩
  · simp [hq]
  · exact step_of_accepts hq hs hr ha (.inl rfl)
  · refine (step_effect h).script_eq.imp_left fun htail => ?_
    have := List.length_pos_iff.2 hne
    rw [htail, List.length_tail]
    omega
  · by_cases hw : s.wakeTurn = false ∨ s.now < s.wakeAt
    · exact .inl ⟨hq, hs, hr, ha, hw⟩
    · rw [not_or, Bool.not_eq_false, Nat.not_lt] at hw
      exact .inr (command_follows_wake hs hr ha hn hw.2 hw.1 hq)
  · have hw : s.wakeAt ≤ s.now := ((wakeDue_iff s).1 hdue).2
    cases ht : s.wakeTurn with
    | true => exact .inl ⟨_, step_wake hs hr ha hw ht, rfl⟩
    | false => exact .inr fun t h => wake_taken_at_next_edge hs hr ha hn hw ht ho (step_effect h)

end Sys2Proof.Machine

namespace Sys2Proof.Machine

/-! ## The average of a stream (40_sample_stream.md R102) -/

section Average

variable {a : ArithMode} {seq x y : List Pattern}

theorem avg_nil (a : ArithMode) : avg a [] = none := rfl

theorem avg_of_ne_nil (a : ArithMode) (h : seq ≠ []) : avg a seq = some (meanOf a seq) := by
  simp [avg, h]

/-- The exact mean is a sum over the samples held, in any order. -/
theorem exactMean_perm (h : x.Perm y) : exactMean x = exactMean y := by
  rw [exactMean, exactMean, exactSum, exactSum, (h.map val32).sum_eq, h.length_eq]

/-- CR32 and EXACT read the samples through the exact mean only; SEQ32 adds them one by one (R103). -/
theorem meanOf_perm (ha : a ≠ .seq32) (h : x.Perm y) : meanOf a x = meanOf a y := by
  cases a with
  | cr32 => exact congrArg rne32 (exactMean_perm h)
  | exact => exact congrArg Value32.fin (exactMean_perm h)
  | seq32 => exact absurd rfl ha

theorem avg_perm (ha : a ≠ .seq32) (h : x.Perm y) : avg a x = avg a y := by
  by_cases hx : x = []
  · subst hx
    rw [h.nil_eq]
  · have hy : y ≠ [] := by
      rintro rfl
      exact hx h.eq_nil
    rw [avg_of_ne_nil a hx, avg_of_ne_nil a hy, meanOf_perm ha h]

/-- The exact mean of samples that all lie in an interval lies there too. -/
theorem exactMean_mem_Icc {lo hi : Rat} (hne : seq ≠ []) (h : ∀ p ∈ seq, lo ≤ val32 p ∧ val32 p ≤ hi) :
    exactMean seq ∈ Set.Icc lo hi := by
  have hlen : (0 : Rat) < seq.length := by exact_mod_cast List.length_pos_iff.2 hne
  have hlo : (seq.map val32).length • lo ≤ exactSum seq :=
    List.card_nsmul_le_sum _ _ (List.forall_mem_map.2 fun p hp => (h p hp).1)
  have hhi : exactSum seq ≤ (seq.map val32).length • hi :=
    List.sum_le_card_nsmul _ _ (List.forall_mem_map.2 fun p hp => (h p hp).2)
  rw [List.length_map, nsmul_eq_mul, mul_comm] at hlo hhi
  exact ⟨(le_div_iff₀ hlen).2 hlo, (div_le_iff₀ hlen).2 hhi⟩

/-- Rounding is finite below R13's overflow threshold. -/
theorem exists_rne32_eq_fin {q : Rat} (h : |q| < 2 ^ 128 - 2 ^ 103) : ∃ r, rne32 q = .fin r := by
  unfold rne32
  split_ifs with h0 hbig hneg
  · exact ⟨_, rfl⟩
  · exact absurd h hbig.not_gt
  · exact absurd h hbig.not_gt
  · exact ⟨_, rfl⟩

/-- Rounding does not leave an interval between two finite samples: the result is no farther from `q` than either. -/
theorem exists_rne32_mem_Icc {q : Rat} {lo hi : Pattern} (hlo : isFinite lo = true) (hhi : isFinite hi = true)
    (hq : q ∈ Set.Icc (val32 lo) (val32 hi)) : ∃ r, rne32 q = .fin r ∧ val32 lo ≤ r ∧ r ≤ val32 hi := by
  obtain ⟨hql, hqh⟩ := hq
  have hsmall : |q| < 2 ^ 128 - 2 ^ 103 :=
    (abs_le_max_abs_abs hql hqh).trans_lt (max_lt (abs_val32_lt hlo) (abs_val32_lt hhi))
  obtain ⟨r, hr⟩ := exists_rne32_eq_fin hsmall
  have hnearLo : |r - q| ≤ q - val32 lo := by
    simpa [abs_sub_comm, abs_of_nonneg (sub_nonneg.2 hql)] using rne32_nearest hr hlo
  have hnearHi : |r - q| ≤ val32 hi - q := by
    simpa [abs_of_nonneg (sub_nonneg.2 hqh)] using rne32_nearest hr hhi
  refine ⟨r, hr, ?_, ?_⟩
  · linarith [neg_abs_le (r - q)]
  · linarith [le_abs_self (r - q)]

end Average

/-- Settles O18: CR32 and EXACT see the exact mean only, whose sum commutes. -/
theorem averageIgnoresOrder : Obligations.AverageIgnoresOrder := by
  unfold Obligations.AverageIgnoresOrder
  exact ⟨avg_nil, fun x y h => ⟨avg_perm (by decide) h, avg_perm (by decide) h⟩⟩

/-- Settles O19: the exact mean lies between the samples, and the rounded one is nearest to it. -/
theorem averageLiesBetweenTheSamples : Obligations.AverageLiesBetweenTheSamples := by
  unfold Obligations.AverageLiesBetweenTheSamples
  intro seq lo hi hne hfin hlo hhi hbounds
  obtain ⟨r, hr, hle, hge⟩ :=
    exists_rne32_mem_Icc (hfin lo hlo) (hfin hi hhi) (exactMean_mem_Icc hne hbounds)
  exact ⟨r, (avg_of_ne_nil .cr32 hne).trans (congrArg some hr), hle, hge⟩

/-! ## What a step does to a stream (40_sample_stream.md R109, R111) -/

section StreamSteps

variable {update : Instr → Option Pattern} {clear : Instr} {s s' t : State} {x x' h : List Pattern} {w : CmdWord}

/-! ### The effect of a step on one stream -/

/-- What a step from `s` makes of a stream `x` with the given update and clear commands: only reset and an accepted
command of its own change it. -/
inductive StreamEffect (update : Instr → Option Pattern) (clear : Instr) (s : State) (x : List Pattern) :
    List Pattern → Prop
  | reset (hr : s.rst = true) : StreamEffect update clear s x []
  | push (w : CmdWord) (i : Instr) (p : Pattern) (ha : s.Accepts w) (hd : decode w = .ok i)
      (hu : update i = some p) (hp : isFinite p = true) : StreamEffect update clear s x (pushSeq s.build.n x p)
  | clear (w : CmdWord) (ha : s.Accepts w) (hd : decode w = .ok clear) : StreamEffect update clear s x []
  | keep (hr : s.rst = false)
      (hn : ∀ w i, s.Accepts w → decode w = .ok i → i ≠ clear ∧ ∀ p, update i = some p → isFinite p = false) :
      StreamEffect update clear s x x

/-- One edge accepts one word at most. -/
theorem State.Accepts.unique {v : CmdWord} (hw : s.Accepts w) (hv : s.Accepts v) : v = w := by
  obtain ⟨hw, -⟩ := hw
  obtain ⟨hv, -⟩ := hv
  exact Option.some.inj (hv.symm.trans hw)

/-- An accepted word that neither clears the stream nor pushes a finite sample keeps it. -/
theorem StreamEffect.keep_of_word (ha : s.Accepts w)
    (hn : ∀ i, decode w = .ok i → i ≠ clear ∧ ∀ p, update i = some p → isFinite p = false) :
    StreamEffect update clear s x x := by
  have ⟨_, _, hr, _⟩ := ha
  refine .keep hr fun v i hv hd => ?_
  obtain rfl := ha.unique hv
  exact hn i hd

theorem StreamEffect.keep_of_no_word (hr : s.rst = false) (hn : ∀ w, ¬s.Accepts w) :
    StreamEffect update clear s x x :=
  .keep hr fun w _ ha => absurd ha (hn w)

theorem CommandEffect.tsEffect (ha : s.Accepts w) (he : CommandEffect s.beginStep w t) :
    StreamEffect tempSample .tempError s s.ts t.ts := by
  cases he with
  | tempPush p hd hp => exact .push w _ p ha hd rfl hp
  | tempClear hd => exact .clear w ha hd
  | tempNonfinite p hd hp => exact .keep_of_word ha (by simp [hd, tempSample, hp])
  | error e hd | voltPush p hd | voltNonfinite p hd | voltClear hd | motionDebounced hd | motionCounted hd
  | motionUngated hd | button hd => exact .keep_of_word ha (by simp [hd, tempSample])

theorem CommandEffect.vsEffect (ha : s.Accepts w) (he : CommandEffect s.beginStep w t) :
    StreamEffect voltSample .voltError s s.vs t.vs := by
  cases he with
  | voltPush p hd hp => exact .push w _ p ha hd rfl hp
  | voltClear hd => exact .clear w ha hd
  | voltNonfinite p hd hp => exact .keep_of_word ha (by simp [hd, voltSample, hp])
  | error e hd | tempPush p hd | tempNonfinite p hd | tempClear hd | motionDebounced hd | motionCounted hd
  | motionUngated hd | button hd => exact .keep_of_word ha (by simp [hd, voltSample])

/-- A step resets the streams, or leaves them alone because no word is accepted, or does to them what the accepted
word does. -/
theorem StepEffect.streams_cases (he : StepEffect s s') :
    (s.rst = true ∧ s'.ts = [] ∧ s'.vs = []) ∨
    (s.rst = false ∧ (∀ w, ¬s.Accepts w) ∧ s'.ts = s.ts ∧ s'.vs = s.vs) ∨
    ∃ w t, s.Accepts w ∧ CommandEffect s.beginStep w t ∧ s'.ts = t.ts ∧ s'.vs = t.vs := by
  cases he with
  | reset hr => exact .inl ⟨hr, rfl, rfl⟩
  | command hr ha hs hw w q hq t ht => exact .inr (.inr ⟨w, t, ⟨by simp [hq], hs, hr, ha, hw⟩, ht, rfl, rfl⟩)
  | spuriousAck hr ha | success hr ha | failure hr ha =>
    exact .inr (.inl ⟨hr, fun w ⟨_, _, _, hna, _⟩ => by simp [ha] at hna, rfl, rfl⟩)
  | init hr _ hs => exact .inr (.inl ⟨hr, fun w ⟨_, hp, _⟩ => by simp [hs] at hp, rfl, rfl⟩)
  | wake hr _ _ hw ht =>
    exact .inr (.inl ⟨hr, fun w ⟨_, _, _, _, hc⟩ => by simp [ht, hw.not_gt] at hc, rfl, rfl⟩)
  | wait hr _ hs =>
    refine .inr (.inl ⟨hr, fun w ⟨hq, hp, _⟩ => ?_, rfl, rfl⟩)
    obtain hs | ⟨-, -, hnil⟩ := hs
    · simp [hs] at hp
    · simp [hnil] at hq

theorem StepEffect.tsEffect (he : StepEffect s s') : StreamEffect tempSample .tempError s s.ts s'.ts := by
  obtain ⟨hr, hts, -⟩ | ⟨hr, hn, hts, -⟩ | ⟨w, t, ha, ht, hts, -⟩ := he.streams_cases <;> rw [hts]
  · exact .reset hr
  · exact .keep_of_no_word hr hn
  · exact ht.tsEffect ha

theorem StepEffect.vsEffect (he : StepEffect s s') : StreamEffect voltSample .voltError s s.vs s'.vs := by
  obtain ⟨hr, -, hvs⟩ | ⟨hr, hn, -, hvs⟩ | ⟨w, t, ha, ht, -, hvs⟩ := he.streams_cases <;> rw [hvs]
  · exact .reset hr
  · exact .keep_of_no_word hr hn
  · exact ht.vsEffect ha

/-- Without reset a change of a stream has a command of its own behind it. -/
theorem StreamEffect.command_of_ne (he : StreamEffect update clear s x x') (hr : s.rst = false) (hne : x' ≠ x) :
    ∃ w i, s.Accepts w ∧ decode w = .ok i ∧ (i = clear ∨ ∃ p, update i = some p) := by
  cases he with
  | reset hrst => simp [hr] at hrst
  | push w i p ha hd hu => exact ⟨w, i, ha, hd, .inr ⟨p, hu⟩⟩
  | clear w ha hd => exact ⟨w, clear, ha, hd, .inl rfl⟩
  | keep => exact absurd rfl hne

theorem tempSample_eq_some_iff {i : Instr} {p : Pattern} : tempSample i = some p ↔ i = .tempUpdate p := by
  cases i <;> simp [tempSample]

theorem voltSample_eq_some_iff {i : Instr} {p : Pattern} : voltSample i = some p ↔ i = .voltUpdate p := by
  cases i <;> simp [voltSample]

/-! ### The history of a stream after a step -/

theorem pick_of_accepts (ha : s.Accepts w) : pick s = some (.inr w) := by
  obtain ⟨hq, hs, hr, hack, hw⟩ := ha
  rw [pick_command hr hack hs hw, hq]
  rfl

theorem historyAfter_reset (hr : s.rst = true) : historyAfter update clear s h = [] := by
  simp [historyAfter, pick_reset hr]

theorem historyAfter_clear (ha : s.Accepts w) (hd : decode w = .ok clear) :
    historyAfter update clear s h = [] := by
  simp [historyAfter, pick_of_accepts ha, hd]

theorem historyAfter_push {i : Instr} {p : Pattern} (ha : s.Accepts w) (hd : decode w = .ok i) (hi : i ≠ clear)
    (hu : update i = some p) (hp : isFinite p = true) : historyAfter update clear s h = h ++ [p] := by
  simp [historyAfter, pick_of_accepts ha, hd, hi, hu, hp]

theorem historyAfter_keep (hr : s.rst = false)
    (hn : ∀ w i, s.Accepts w → decode w = .ok i → i ≠ clear ∧ ∀ p, update i = some p → isFinite p = false) :
    historyAfter update clear s h = h := by
  obtain ⟨hrst, -⟩ | ⟨-, -, hk⟩ | ⟨-, -, -, hk⟩ | ⟨-, -, -, -, -, hk⟩ | ⟨-, hack, hs, hw, w, q, hq, hk⟩ |
    ⟨-, -, -, -, -, hk⟩ | ⟨-, -, -, hk⟩ := pick_cases s
  · simp [hr] at hrst
  · simp [historyAfter, hk]
  · simp [historyAfter, hk]
  · simp [historyAfter, hk]
  · have ha : s.Accepts w := ⟨by simp [hq], hs, hr, hack, hw⟩
    cases hd : decode w with
    | error e => simp [historyAfter, hk, hd]
    | ok i =>
      obtain ⟨hi, hf⟩ := hn w i ha hd
      cases hu : update i with
      | none => simp [historyAfter, hk, hd, hi, hu]
      | some p => simp [historyAfter, hk, hd, hi, hu, hf p hu]
  · simp [historyAfter, hk]
  · simp [historyAfter, hk]

/-! ### The window on a history -/

theorem lastN_nil (n : Nat) : lastN n [] = [] := by simp [lastN]

theorem length_lastN (n : Nat) (h : List Pattern) : (lastN n h).length = min h.length n := by
  simp only [lastN, List.length_drop]
  omega

/-- Pushing on the window of a history gives the window of the longer history (R100, R111). -/
theorem pushSeq_lastN {n : Nat} (hn : 1 ≤ n) (h : List Pattern) (p : Pattern) :
    pushSeq n (lastN n h) p = lastN n (h ++ [p]) := by
  have hdrop (k : Nat) (hk : k ≤ h.length) : (h ++ [p]).drop k = h.drop k ++ [p] := List.drop_append_of_le_length hk
  unfold pushSeq
  rw [length_lastN]
  unfold lastN
  rw [List.length_append, List.length_singleton, hdrop _ (by omega)]
  split_ifs with hfull
  · rw [List.tail_drop]
    congr 2
    omega
  · congr 2
    omega

/-- A stream that is the window of its history stays so (R111). -/
theorem StreamEffect.window (he : StreamEffect update clear s x x') (hc : update clear = none) (hn : 1 ≤ s.build.n)
    (hx : x = lastN s.build.n h) : x' = lastN s.build.n (historyAfter update clear s h) := by
  cases he with
  | reset hr => rw [historyAfter_reset hr, lastN_nil]
  | clear w ha hd => rw [historyAfter_clear ha hd, lastN_nil]
  | push w i p ha hd hu hp =>
    have hi : i ≠ clear := by
      rintro rfl
      simp [hc] at hu
    rw [historyAfter_push ha hd hi hu hp, hx, pushSeq_lastN hn]
  | keep hr hn => rw [historyAfter_keep hr hn, hx]

end StreamSteps

/-- Settles O17: each effect on a stream is matched by the one on its history. -/
theorem windowsFollowTheirHistories : Obligations.WindowsFollowTheirHistories := by
  unfold Obligations.WindowsFollowTheirHistories
  intro s s' h hn hstep
  have he : StepEffect s s' := step_effect hstep
  rw [he.build_eq]
  exact ⟨he.tsEffect.window rfl hn, he.vsEffect.window rfl hn⟩

/-- Settles O51: a stream's effect names the command behind a change. -/
theorem streamsChangeOnlyByTheirCommands : Obligations.StreamsChangeOnlyByTheirCommands := by
  unfold Obligations.StreamsChangeOnlyByTheirCommands
  intro s s' h hr
  have he : StepEffect s s' := step_effect h
  simp only [← tempSample_eq_some_iff, ← voltSample_eq_some_iff]
  exact ⟨he.tsEffect.command_of_ne hr, he.vsEffect.command_of_ne hr⟩

/-! ## The four commands of the sample streams (40_sample_stream.md R105 to R108) -/

section SampleCommands

variable {p : Pattern}

/-- A command that cannot be refused acts where `cmd_ready` is high and is held elsewhere (30_encoding.md R71). -/
theorem whenAccepted_next_eq (s t : State) :
    whenAccepted s (.next t) = .next (if s.schState = .pending ∧ s.rst = false then t else s) := by
  split_ifs with hc
  · exact whenAccepted_of_ready hc.1 hc.2 _
  · exact whenAccepted_of_not_ready hc _

theorem pushSeq_eq (n : Nat) (x : List Pattern) (p : Pattern) :
    pushSeq n x p = (if x.length = n then x.tail else x) ++ [p] := by
  unfold pushSeq
  split <;> rfl

/-- A sample is finite by its exponent bits (00_scope.md R12). -/
theorem isFinite_iff_bits : isFinite p = true ↔ p.extractLsb' 23 8 ≠ 0xFF#8 := decide_eq_true_iff

/-- An update command answers `t` for a finite sample and `u` for another, where it is accepted. -/
theorem whenAccepted_sample (s t u : State) :
    whenAccepted s (if isFinite p then .next t else .next u) =
      .next (if s.schState = .pending ∧ s.rst = false then (if p.extractLsb' 23 8 = 0xFF#8 then u else t) else s) := by
  rw [← apply_ite Host.Outcome.next, whenAccepted_next_eq]
  simp only [isFinite_iff_bits, ite_not]

theorem raiseError_nonfiniteSample (s : State) :
    s.raiseError .nonfiniteSample = { s with err := s.err ||| 0b0100#4 } := rfl

theorem raiseError_reservedPayload (s : State) :
    s.raiseError .reservedPayload = { s with err := s.err ||| 0b0010#4 } := rfl

/-- The word of a command without a sample raises RESERVED_PAYLOAD if it carries a payload (30_encoding.md R76). -/
theorem acceptWord_of_payload {opc : BitVec 8} (h : opc.toNat = 2 ∨ opc.toNat = 4 ∨ opc.toNat = 5 ∨ opc.toNat = 6)
    (hp : p ≠ 0#32) (s : State) :
    acceptWord (commandWord opc p) s = .next { s with err := s.err ||| 0b0010#4 } := by
  have hpay : (commandWord opc p).toNat % 2 ^ 32 ≠ 0 := by
    rwa [Ne, ← payloadField_eq_zero_iff, payloadField_commandWord]
  rw [← Laws.OpcodeRow.commandWord_high opc p] at h
  rw [acceptWord_error (decode_reservedPayload h hpay), ← raiseError_reservedPayload]
  rfl

end SampleCommands

/-- Settles O13: an accepted sample is pushed if it is finite, and is an error if not. -/
theorem tempUpdateFeedsTemperatureStream : Obligations.TempUpdateFeedsTemperatureStream := by
  unfold Obligations.TempUpdateFeedsTemperatureStream
  refine fun p s => ⟨rfl, ?_⟩
  rw [← raiseError_nonfiniteSample, ← pushSeq_eq]
  exact whenAccepted_sample s _ _

/-- Settles O14: an accepted sample is pushed if it is finite, and is an error if not. -/
theorem voltUpdateFeedsVoltageStream : Obligations.VoltUpdateFeedsVoltageStream := by
  unfold Obligations.VoltUpdateFeedsVoltageStream
  refine fun p s => ⟨rfl, ?_⟩
  rw [← raiseError_nonfiniteSample, ← pushSeq_eq]
  exact whenAccepted_sample s _ _

/-- Settles O15: the stream is cleared where the command is accepted, and a payload makes the word an error. -/
theorem tempErrorClearsTemperatureStream : Obligations.TempErrorClearsTemperatureStream := by
  unfold Obligations.TempErrorClearsTemperatureStream
  exact ⟨rfl, fun b => by rw [avg_nil, tempCode], rfl,
    fun s => ⟨whenAccepted_next_eq s _, fun p hp => acceptWord_of_payload (opc := 0x02#8) (by decide) hp s⟩⟩

/-- Settles O16: the stream is cleared where the command is accepted, and a payload makes the word an error. -/
theorem voltErrorClearsVoltageStream : Obligations.VoltErrorClearsVoltageStream := by
  unfold Obligations.VoltErrorClearsVoltageStream
  exact ⟨rfl, fun b => by rw [avg_nil, voltCode], rfl,
    fun s => ⟨whenAccepted_next_eq s _, fun p hp => acceptWord_of_payload (opc := 0x04#8) (by decide) hp s⟩⟩

/-! ## The example words -/

/-- The word of a command decodes to it. -/
theorem decode_of_encode {i : Instr} {w : CmdWord} (h : encode i = some w) : decode w = .ok i := by
  have hi : i.wf = true := by
    cases i with
    | tempUpdate | tempError | voltUpdate | voltError | motion | button => rfl
    | init | wake | txComplete | reset => cases h
  obtain ⟨v, hv, hd⟩ := decodeOfEncodeIsIdentity i hi
  rwa [Option.some.inj (h.symm.trans hv)]

/-- Settles O4: each word is the one its command is encoded in. -/
theorem exampleWordsDecode : Obligations.ExampleWordsDecode := by
  unfold Obligations.ExampleWordsDecode
  exact ⟨decode_of_encode rfl, decode_of_encode rfl, decode_of_encode rfl, decode_of_encode rfl,
    decode_of_encode rfl, decode_of_encode rfl⟩

end Sys2Proof.Machine

namespace Sys2Proof.Machine

/-! ## The motion counter (41_motion_counter.md) -/

section MotionCounter

variable {s t : State}

/-- One trigger more in MC_COUNT, saturating (41_motion_counter.md R130). -/
def State.countTrigger (s : State) : State := s.setCount (bumpCount s.build s.mcCount)

/-- With the 16 bits of 00_scope.md R6 the count saturates at 65535. -/
theorem countMax_of_width {b : Build} (h : b.countW = 16) : countMax b = 65535 := by
  rw [countMax, h]
  rfl

/-! ### What an accepted trigger does, case by case (41_motion_counter.md R130, R134) -/

theorem exec_motion_debounced (hs : s.schState = .pending) (hr : s.rst = false) (he : s.build.debounceEn = true)
    (hn : s.now < s.mcNext) : exec .motion s = .next s :=
  (whenAccepted_of_ready hs hr _).trans (by rw [if_pos he, if_pos hn])

theorem exec_motion_gated (hs : s.schState = .pending) (hr : s.rst = false) (he : s.build.debounceEn = true)
    (hn : s.mcNext ≤ s.now) :
    exec .motion s = withTime s.build s.now s.build.debounceMs s.countTrigger.setMcNext :=
  (whenAccepted_of_ready hs hr _).trans (by rw [if_pos he, if_neg (Nat.not_lt.2 hn), State.countTrigger])

theorem exec_motion_counted (hs : s.schState = .pending) (hr : s.rst = false) (he : s.build.debounceEn = true)
    (hn : s.mcNext ≤ s.now) (hf : s.now + s.build.debounceMs < 2 ^ s.build.tickW) :
    exec .motion s = .next (s.countTrigger.setMcNext (s.now + s.build.debounceMs)) :=
  (exec_motion_gated hs hr he hn).trans (withTime_of_fits hf _)

theorem exec_motion_ungated (hs : s.schState = .pending) (hr : s.rst = false) (he : s.build.debounceEn = false) :
    exec .motion s = .next s.countTrigger :=
  (whenAccepted_of_ready hs hr _).trans (by simp [he, State.countTrigger])

/-! ### Triggers in a row (41_motion_counter.md R132) -/

/-- A trigger at its earliest eligible time counts in either build, and the next one is eligible DEBOUNCE_MS later at
the latest. -/
theorem motionWhenEligible_counts (hs : s.schState = .pending) (hr : s.rst = false)
    (hf : max s.now s.mcNext + s.build.debounceMs < 2 ^ s.build.tickW) :
    ∃ n ≤ max s.now s.mcNext + s.build.debounceMs,
      motionWhenEligible s = .next { s.countTrigger with now := max s.now s.mcNext, mcNext := n } := by
  cases he : s.build.debounceEn with
  | true => exact ⟨_, le_rfl, exec_motion_counted hs hr he (Nat.le_max_right ..) hf⟩
  | false => exact ⟨s.mcNext, by omega, exec_motion_ungated hs hr he⟩

/-- `t` is where `k` counted triggers in a row lead from `s`, each at its earliest eligible time. -/
structure State.CountedTriggers (s : State) (k : Nat) (t : State) : Prop where
  build_eq : t.build = s.build
  pending : t.schState = .pending
  rst_low : t.rst = false
  eligible_le : max t.now t.mcNext ≤ max s.now s.mcNext + k * s.build.debounceMs
  count_eq : t.mcCount.toNat = min k (countMax s.build)

theorem State.CountedTriggers.zero (hs : s.schState = .pending) (hr : s.rst = false) (hc : s.mcCount = 0#16) :
    s.CountedTriggers 0 s where
  build_eq := rfl
  pending := hs
  rst_low := hr
  eligible_le := by omega
  count_eq := by simp [hc]

theorem State.CountedTriggers.succ {k : Nat} (h : s.CountedTriggers k t)
    (hf : max s.now s.mcNext + (k + 1) * s.build.debounceMs < 2 ^ s.build.tickW) :
    ∃ t', motionWhenEligible t = .next t' ∧ s.CountedTriggers (k + 1) t' := by
  obtain ⟨hb, hs, hr, hle, hcount⟩ := h
  rw [Nat.succ_mul] at hf
  obtain ⟨n, hn, hm⟩ := motionWhenEligible_counts hs hr (by rw [hb]; omega)
  rw [hb] at hn
  refine ⟨_, hm, hb, hs, hr, ?_, ?_⟩
  · change max (max t.now t.mcNext) n ≤ _
    rw [Nat.succ_mul]
    omega
  · change (bumpCount t.build t.mcCount).toNat = _
    rw [bumpCount_toNat, hb, hcount]
    omega

theorem repeatRun_motionWhenEligible (hs : s.schState = .pending) (hr : s.rst = false) (hc : s.mcCount = 0#16)
    (k : Nat) (hf : max s.now s.mcNext + k * s.build.debounceMs < 2 ^ s.build.tickW) :
    ∃ t, repeatRun motionWhenEligible k s = .next t ∧ s.CountedTriggers k t := by
  induction k with
  | zero => exact ⟨s, rfl, .zero hs hr hc⟩
  | succ k ih =>
    obtain ⟨t, ht, hrun⟩ := ih (by rw [Nat.succ_mul] at hf; omega)
    obtain ⟨t', ht', hrun'⟩ := hrun.succ hf
    refine ⟨t', ?_, hrun'⟩
    rw [repeatRun, ht]
    exact ht'

end MotionCounter

/-- Settles O29: the count and the earliest eligible time are followed trigger by trigger. -/
theorem motionCountSaturates : Obligations.MotionCountSaturates := by
  unfold Obligations.MotionCountSaturates
  intro k s hs hr hc hf
  obtain ⟨t, ht, hrun⟩ := repeatRun_motionWhenEligible hs hr hc k hf
  exact ⟨t, ht, hrun.count_eq, fun hw => countMax_of_width hw ▸ hrun.count_eq⟩

/-- Settles O28: the first trigger counts and opens the window, and the second is debounced exactly inside it. -/
theorem twoTriggersCountByTheirSpacing : Obligations.TwoTriggersCountByTheirSpacing := by
  unfold Obligations.TwoTriggersCountByTheirSpacing
  intro s t t' hs hr he hc hn ht hf
  have hfirst := exec_motion_counted (s := { s with now := t }) hs hr he hn (by dsimp only; omega)
  have hone : (bumpCount s.build s.mcCount).toNat = min 1 (countMax s.build) := by simp [bumpCount_toNat, hc]
  by_cases hw : t + s.build.debounceMs ≤ t'
  · refine ⟨_, _, hfirst, exec_motion_counted hs hr he hw hf, ?_⟩
    change (bumpCount s.build (bumpCount s.build s.mcCount)).toNat = _
    rw [if_pos hw, bumpCount_toNat, hone]
    omega
  · refine ⟨_, _, hfirst, exec_motion_debounced hs hr he (Nat.not_le.1 hw), ?_⟩
    rw [if_neg hw]
    exact hone

/-- Settles O26: one equation per case of the gate. -/
theorem motionCountsUnlessDebounced : Obligations.MotionCountsUnlessDebounced := by
  unfold Obligations.MotionCountsUnlessDebounced
  refine ⟨rfl, fun _ => countMax_of_width, fun s h => exec_command_held rfl h, fun s hs hr he => ?_⟩
  exact ⟨exec_motion_debounced hs hr he, exec_motion_counted hs hr he,
    fun hn hf => (exec_motion_gated hs hr he hn).trans (withTime_of_overflow hf _),
    fun p hp => acceptWord_of_payload (opc := 0x05#8) (by decide) hp s⟩

/-- Settles O27: the ungated trigger counts, and a payload makes the word an error. -/
theorem motionWithoutDebounceAlwaysCounts : Obligations.MotionWithoutDebounceAlwaysCounts := by
  unfold Obligations.MotionWithoutDebounceAlwaysCounts
  exact ⟨fun _ => countMax_of_width, fun s hs hr he => ⟨exec_motion_ungated hs hr he,
    fun p hp => acceptWord_of_payload (opc := 0x05#8) (by decide) hp s⟩⟩

end Sys2Proof.Machine

namespace Sys2Proof.Machine

/-! ## The codes of the report frame (42_frame_encoder.md R152, R154) -/

section Codes

variable {v lo hi : Int}

theorem clampInt_mem_Icc (h : lo ≤ hi) : clampInt v lo hi ∈ Set.Icc lo hi :=
  ⟨le_min (le_max_right v lo) h, min_le_right _ _⟩

theorem clampInt_eq_top_iff (h : lo < hi) : clampInt v lo hi = hi ↔ hi ≤ v := by
  rw [clampInt, min_eq_right_iff, le_max_iff, or_iff_left h.not_ge]

theorem voltCodeOf_fin_toNat (q : Rat) : ((voltCodeOf (.fin q)).toNat : Int) = clampInt ⌈q⌉ 0 255 := by
  obtain ⟨hlo, hhi⟩ : clampInt ⌈q⌉ 0 255 ∈ Set.Icc 0 255 := clampInt_mem_Icc (by decide)
  rw [voltCodeOf, BitVec.toNat_ofInt]
  omega

theorem tempInt_mem_Icc (r : TempRound) (x : Value32) : tempInt r x ∈ Set.Icc (-32768) 32767 := by
  cases x with
  | fin q => exact clampInt_mem_Icc (by decide)
  | posInf => exact Set.right_mem_Icc.2 (by decide)
  | negInf => exact Set.left_mem_Icc.2 (by decide)

/-- Two's complement holds the temperature without loss. -/
theorem tempCode_toInt (b : Build) (v : Value32) :
    (tempCode b (some v)).toInt = tempInt b.tempRound (scaleTen b.arith v) := by
  obtain ⟨hlo, hhi⟩ := tempInt_mem_Icc b.tempRound (scaleTen b.arith v)
  exact BitVec.toInt_ofInt_eq_self (by decide) hlo (Int.lt_add_one_of_le hhi)

end Codes

/-- Settles O30: saturation leaves a number that a byte holds. -/
theorem voltageCodeIsSaturatedCeiling : Obligations.VoltageCodeIsSaturatedCeiling := by
  unfold Obligations.VoltageCodeIsSaturatedCeiling
  refine fun b => ⟨rfl, id, fun v => ⟨fun h => ?_, fun h => ?_, fun x h => ?_⟩⟩ <;> rw [voltCode, h]
  · rfl
  · rfl
  · exact voltCodeOf_fin_toNat x

/-- Settles O31: saturation leaves a number that two's complement of 16 bits holds. -/
theorem temperatureCodeIsSaturatedRounding : Obligations.TemperatureCodeIsSaturatedRounding := by
  unfold Obligations.TemperatureCodeIsSaturatedRounding
  refine fun b => ⟨rfl, id, fun v => ?_⟩
  rw [tempCode_toInt]
  refine ⟨fun h => ?_, fun h => ?_, fun x h => ?_⟩ <;> rw [h] <;> rfl

/-! ## The frame as a number and as bytes (42_frame_encoder.md R156, 20_memory.md R54) -/

theorem append_toNat {m n : Nat} (x : BitVec m) (y : BitVec n) : (x ++ y).toNat = x.toNat * 2 ^ n + y.toNat := by
  rw [BitVec.toNat_append, ← Nat.shiftLeft_add_eq_or_of_lt y.isLt, Nat.shiftLeft_eq]

/-- The frame is one big-endian number (42_frame_encoder.md R156). -/
theorem encodeFrame_toNat (b : Build) (va ta : Option Value32) (c : BitVec 16) :
    (encodeFrame b va ta c).toNat =
      (voltCode b va).toNat * 2 ^ 32 + (tempCode b ta).toNat * 2 ^ 16 + c.toNat := by
  rw [encodeFrame, append_toNat, append_toNat]
  omega

theorem frameByte_toNat (b : Build) (f : Frame) (k : Nat) :
    (frameByte b f k).toNat = f.toNat / 2 ^ (8 * (b.frameBytes - 1 - k)) % 2 ^ 8 := by
  rw [frameByte, BitVec.extractLsb'_toNat, Nat.shiftRight_eq_div_pow]

/-- A frame of five bytes is sent as the digits of its number to the base 256, most significant first. -/
theorem sentBytes_toNat {b : Build} (h : b.frameBytes = 5) (f : Frame) :
    (sentBytes b f).map BitVec.toNat =
      [f.toNat / 2 ^ 32 % 2 ^ 8, f.toNat / 2 ^ 24 % 2 ^ 8, f.toNat / 2 ^ 16 % 2 ^ 8, f.toNat / 2 ^ 8 % 2 ^ 8,
        f.toNat % 2 ^ 8] := by
  simp [sentBytes, h, List.range_succ, frameByte_toNat]

/-- Settles O32: the fields are digits of the frame's number, and the bytes are digits of the fields. -/
theorem frameHoldsItsThreeFields : Obligations.FrameHoldsItsThreeFields := by
  unfold Obligations.FrameHoldsItsThreeFields
  refine fun b va ta c => ⟨encodeFrame_toNat b va ta c, fun h => ?_⟩
  have hv := (voltCode b va).isLt
  have ht := (tempCode b ta).isLt
  have hc := c.isLt
  rw [sentBytes_toNat h, encodeFrame_toNat]
  simp only [List.cons.injEq, and_true]
  refine ⟨?_, ?_, ?_, ?_, ?_⟩ <;> omega

/-! ## The averages that share a sentinel's code (42_frame_encoder.md R157) -/

section Exceeding

variable {T q q' r r' : Rat}

/-- A scaled value lies above `T`: a rational above it, or `+inf`. -/
def Exceeds (T : Rat) : Value32 → Prop
  | .fin q => T < q
  | .posInf => True
  | .negInf => False

theorem exceeds_fin_iff : Exceeds T (.fin q) ↔ T < q := Iff.rfl

/-! ### Rounding keeps the order -/

/-- The overflow threshold of 00_scope.md R13. -/
theorem rne32_eq_posInf_iff : rne32 q = .posInf ↔ 2 ^ 128 - 2 ^ 103 ≤ q := by
  have hpos : (0 : Rat) < 2 ^ 128 - 2 ^ 103 := by norm_num
  unfold rne32
  split_ifs with h0 hbig hneg
  · simpa [h0] using hpos
  · exact iff_of_false nofun (hneg.trans hpos).not_ge
  · simpa [abs_of_nonneg (not_lt.1 hneg)] using hbig
  · exact iff_of_false nofun ((le_abs_self q).trans_lt (not_le.1 hbig)).not_ge

theorem rne32_eq_negInf_iff : rne32 q = .negInf ↔ q ≤ -(2 ^ 128 - 2 ^ 103) := by
  have hpos : (0 : Rat) < 2 ^ 128 - 2 ^ 103 := by norm_num
  unfold rne32
  split_ifs with h0 hbig hneg
  · simpa [h0] using hpos
  · rw [abs_of_neg hneg] at hbig
    simpa using le_neg.2 hbig
  · exact iff_of_false nofun ((neg_lt_zero.2 hpos).trans_le (not_lt.1 hneg)).not_ge
  · exact iff_of_false nofun (neg_lt.1 ((neg_le_abs q).trans_lt (not_le.1 hbig))).not_ge

/-- Each result is a binary32 value, so neither number has the other's result nearer than its own. -/
theorem rne32_fin_mono (hle : q ≤ q') (h : rne32 q = .fin r) (h' : rne32 q' = .fin r') : r ≤ r' := by
  obtain ⟨p, hp, hr⟩ := exists_pattern_of_rne32 h
  obtain ⟨p', hp', hr'⟩ := exists_pattern_of_rne32 h'
  obtain rfl | hlt := hle.eq_or_lt
  · exact (Value32.fin.inj (h.symm.trans h')).le
  · have hnear : (r - q) ^ 2 ≤ (r' - q) ^ 2 := sq_le_sq.2 (hr' ▸ rne32_nearest h hp')
    have hnear' : (r' - q') ^ 2 ≤ (r - q') ^ 2 := sq_le_sq.2 (hr ▸ rne32_nearest h' hp)
    have hprod : 0 ≤ (r' - r) * (q' - q) := by linarith
    exact sub_nonneg.1 (nonneg_of_mul_nonneg_left hprod (sub_pos.2 hlt))

theorem Exceeds.rne32_mono (hle : q ≤ q') (h : Exceeds T (rne32 q)) : Exceeds T (rne32 q') := by
  cases hq' : rne32 q' with
  | posInf => trivial
  | negInf =>
    rw [rne32_eq_negInf_iff.2 (hle.trans (rne32_eq_negInf_iff.1 hq'))] at h
    exact h
  | fin r' =>
    cases hq : rne32 q with
    | posInf =>
      rw [rne32_eq_posInf_iff.2 ((rne32_eq_posInf_iff.1 hq).trans hle)] at hq'
      cases hq'
    | negInf =>
      rw [hq] at h
      exact h.elim
    | fin r =>
      rw [hq] at h
      exact lt_of_lt_of_le h (rne32_fin_mono hle hq hq')

/-! ### Neighbouring binary32 values -/

/-- No binary32 magnitude lies between two neighbours whose lesser one is normal. -/
theorem magnitude_le_of_lt_succ {m M : Nat} {x X : Int} (hm : m < 2 ^ 24) (hM : 2 ^ 23 ≤ M)
    (h : (m : Rat) * 2 ^ x < ((M + 1 : Nat) : Rat) * 2 ^ X) : (m : Rat) * 2 ^ x ≤ (M : Rat) * 2 ^ X := by
  by_cases hx : X ≤ x
  · obtain ⟨d, rfl⟩ := Int.le.dest hx
    have hd : (m : Rat) * 2 ^ (X + d) = ((m * 2 ^ d : Nat) : Rat) * 2 ^ X := by
      rw [zpow_add₀ two_ne_zero, zpow_natCast]
      push_cast
      ring
    rw [hd] at h ⊢
    have hpos : (0 : Rat) < 2 ^ X := by positivity
    rw [mul_lt_mul_iff_left₀ hpos, Nat.cast_lt] at h
    rw [mul_le_mul_iff_left₀ hpos, Nat.cast_le]
    exact Nat.le_of_lt_succ h
  · calc (m : Rat) * 2 ^ x ≤ 2 ^ (x + 24) := (magnitude_lt_zpow hm).le
      _ ≤ 2 ^ (X + 23) := zpow_le_zpow_right₀ (by norm_num) (by omega)
      _ ≤ (M : Rat) * 2 ^ X := zpow_le_magnitude hM

theorem val32_le_of_lt_succ {p : Pattern} {M : Nat} {X : Int} (hp : isFinite p = true) (hM : 2 ^ 23 ≤ M)
    (h : val32 p < ((M + 1 : Nat) : Rat) * 2 ^ X) : val32 p ≤ (M : Rat) * 2 ^ X := by
  obtain hneg | hpos := le_total (val32 p) 0
  · exact hneg.trans (by positivity)
  · rw [← abs_of_nonneg hpos, abs_val32 hp] at h ⊢
    exact magnitude_le_of_lt_succ (canonicalUnits_of_isFinite hp).lt hM h

/-- Where scaling takes one of two neighbours to at most `T` and the next one above it, the next one is the least sample
that scales above `T`. -/
theorem exceeds_scaleTen_iff {p lo hi : Pattern} {M : Nat} {X : Int} (hM : 2 ^ 23 ≤ M)
    (hlo : val32 lo = (M : Rat) * 2 ^ X) (hhi : val32 hi = ((M + 1 : Nat) : Rat) * 2 ^ X)
    (hbelow : ¬Exceeds T (scaleTen .cr32 (.fin (val32 lo)))) (habove : Exceeds T (scaleTen .cr32 (.fin (val32 hi))))
    (hp : isFinite p = true) : Exceeds T (scaleTen .cr32 (.fin (val32 p))) ↔ val32 hi ≤ val32 p := by
  constructor
  · intro h
    by_contra! hlt
    have hle : val32 p ≤ val32 lo := by
      rw [hhi] at hlt
      rw [hlo]
      exact val32_le_of_lt_succ hp hM hlt
    exact hbelow (h.rne32_mono (by linarith))
  · exact fun h => habove.rne32_mono (by linarith)

/-! ### The codes equal to the sentinels -/

theorem voltCode_eq_sentinel_iff (b : Build) (v : Value32) :
    voltCode b (some v) = 0xFF#8 ↔ Exceeds 254 (scaleTen b.arith v) := by
  rw [voltCode]
  cases scaleTen b.arith v with
  | posInf => exact iff_of_true rfl trivial
  | negInf => exact iff_of_false (by decide) id
  | fin x =>
    calc voltCodeOf (.fin x) = 0xFF#8 ↔ ((voltCodeOf (.fin x)).toNat : Int) = 255 := by
          rw [← BitVec.toNat_inj]
          norm_cast
      _ ↔ 255 ≤ ⌈x⌉ := by rw [voltCodeOf_fin_toNat, clampInt_eq_top_iff (by decide)]
      _ ↔ 254 < ⌈x⌉ := Int.add_one_le_iff (a := 254)
      _ ↔ 254 < x := by exact_mod_cast Int.lt_ceil

theorem tempCode_eq_sentinel_iff (b : Build) (v : Value32) :
    tempCode b (some v) = 0x7FFF#16 ↔ tempInt b.tempRound (scaleTen b.arith v) = 32767 := by
  rw [← BitVec.toInt_inj, tempCode_toInt]
  rfl

theorem tempInt_fin_eq_top_iff {t : TempRound} : tempInt t (.fin q) = 32767 ↔ 32767 ≤ roundT t q :=
  clampInt_eq_top_iff (by decide)

/-- HALF_EVEN reaches an odd integer only above the half below it, which goes to the even integer under it. -/
theorem le_roundHalfEven_iff_of_odd {k : Int} (hk : k % 2 = 1) : k ≤ roundHalfEven q ↔ (k : Rat) - 1 / 2 < q := by
  constructor
  · intro h
    by_contra! hle
    obtain hlt | heq := hle.lt_or_eq
    · exact (roundHalfEven_lt hlt).not_ge h
    · have hq : q = ((k - 1 : Int) : Rat) + 1 / 2 := by
        push_cast
        linarith
      have heven := roundHalfEven_half_even (k - 1)
      have hcases := roundHalfEven_cases (((k - 1 : Int) : Rat) + 1 / 2)
      rw [floor_add_half] at hcases
      rw [hq] at h
      omega
  · intro h
    have hn := (abs_le.1 (abs_roundT_sub_le (r := .halfEven) (by decide) q)).1
    have hlt : ((k - 1 : Int) : Rat) < roundHalfEven q := by
      rw [roundT] at hn
      push_cast
      linarith
    exact Int.le_of_sub_one_lt (by exact_mod_cast hlt)

/-- Under HALF_EVEN the temperature saturates exactly above 32766.5. -/
theorem tempInt_halfEven_eq_top_iff (x : Value32) : tempInt .halfEven x = 32767 ↔ Exceeds (65533 / 2) x := by
  cases x with
  | posInf => exact iff_of_true rfl trivial
  | negInf => exact iff_of_false (by decide) id
  | fin q =>
    rw [tempInt_fin_eq_top_iff, roundT, le_roundHalfEven_iff_of_odd (by decide), exceeds_fin_iff]
    norm_num

end Exceeding

section Thresholds

variable {p : Pattern}

/-! ### The thresholds under CR32, each with the neighbour below it, which scales to exactly 254 and 32766.5 -/

theorem scaleTen_volt_below : scaleTen .cr32 (.fin (val32 0x41CB3333#32)) = .fin 254 := by decide +kernel

theorem scaleTen_volt_above : scaleTen .cr32 (.fin (val32 0x41CB3334#32)) = .fin (254 + 1 / 2 ^ 16) := by
  decide +kernel

theorem scaleTen_temp_below : scaleTen .cr32 (.fin (val32 0x454CCA66#32)) = .fin (65533 / 2) := by decide +kernel

theorem scaleTen_temp_above : scaleTen .cr32 (.fin (val32 0x454CCA67#32)) = .fin (65533 / 2 + 1 / 2 ^ 9) := by
  decide +kernel

theorem exceeds_volt_threshold_iff (hp : isFinite p = true) :
    Exceeds 254 (scaleTen .cr32 (.fin (val32 p))) ↔ val32 0x41CB3334#32 ≤ val32 p := by
  refine exceeds_scaleTen_iff (lo := 0x41CB3333#32) (M := 0xCB3333) (X := -19) (by decide) (by decide +kernel)
    (by decide +kernel) ?_ ?_ hp
  · rw [scaleTen_volt_below]
    exact lt_irrefl _
  · rw [scaleTen_volt_above, exceeds_fin_iff]
    norm_num

theorem exceeds_temp_threshold_iff (hp : isFinite p = true) :
    Exceeds (65533 / 2) (scaleTen .cr32 (.fin (val32 p))) ↔ val32 0x454CCA67#32 ≤ val32 p := by
  refine exceeds_scaleTen_iff (lo := 0x454CCA66#32) (M := 0xCCCA66) (X := -12) (by decide) (by decide +kernel)
    (by decide +kernel) ?_ ?_ hp
  · rw [scaleTen_temp_below]
    exact lt_irrefl _
  · rw [scaleTen_temp_above, exceeds_fin_iff]
    norm_num

end Thresholds

/-- Settles O33: the codes equal the sentinels exactly above 254 and, under HALF_EVEN, above 32766.5, and rounding keeps
the order of the samples, so that the two least samples that scale above are the thresholds. -/
theorem sentinelsAreNotUnique : Obligations.SentinelsAreNotUnique := by
  unfold Obligations.SentinelsAreNotUnique
  refine ⟨fun b => ⟨id, id⟩, fun b v x hx => ?_, fun b hb p hp => ⟨?_, ?_, fun hr => ⟨?_, ?_⟩⟩⟩
  · rw [voltCode_eq_sentinel_iff, tempCode_eq_sentinel_iff, hx]
    exact ⟨exceeds_fin_iff, tempInt_fin_eq_top_iff⟩
  · rw [voltCode, hb, scaleTen_volt_below]
    decide
  · rw [voltCode_eq_sentinel_iff, hb]
    exact exceeds_volt_threshold_iff hp
  · rw [tempCode, hb, hr, scaleTen_temp_below]
    decide +kernel
  · rw [tempCode_eq_sentinel_iff, hb, hr, tempInt_halfEven_eq_top_iff]
    exact exceeds_temp_threshold_iff hp

end Sys2Proof.Machine

namespace Sys2Proof.Machine

/-! ## The report scheduler (43_report_scheduler.md) -/

section Scheduler

variable {b s s' t : State} {w : CmdWord}

/-! ### The enabled operations that plan a time, as the sum they compute (R180 to R184) -/

theorem exec_init_enabled (hs : s.schState = .idle) (hr : s.rst = false) :
    exec .init s = withTime s.build s.now s.build.firstDelayMs (s.setSch .pending).planAbsolute := if_pos ⟨hs, hr⟩

theorem exec_button_accepted (hs : s.schState = .pending) (hr : s.rst = false) :
    exec .button s = withTime s.build s.now s.build.buttonOffsetMs s.planAbsolute := whenAccepted_of_ready hs hr _

theorem exec_txComplete_success (hs : s.schState = .waitTx) (hr : s.rst = false) :
    exec (.txComplete true) s =
      withTime s.build s.wakeAt s.build.successMs (s.setSch .pending).mcReset.emitLedPulse.planAbsolute :=
  (if_neg (by simp [hr])).trans (if_pos hs)

theorem exec_txComplete_failure (hs : s.schState = .waitTx) (hr : s.rst = false) :
    exec (.txComplete false) s = withTime s.build s.wakeAt s.build.retryMs (s.setSch .pending).planAbsolute :=
  (if_neg (by simp [hr])).trans (if_pos hs)

/-! ### WAIT_TX and IDLE through one step -/

/-- WAKE sets the frame to the one the registers give, and in WAIT_TX no step but reset and the answer writes any of
them. -/
theorem StepEffect.snapshotInv (he : StepEffect s s') (h : s.SnapshotInv) : s'.SnapshotInv := by
  intro hw
  cases he with
  | wake _ _ _ hdue => exact ⟨rfl, hdue.trans (le_advanceNow _ _ _)⟩
  | wait =>
    obtain ⟨hframe, hdue⟩ := h hw
    exact ⟨hframe, hdue.trans (le_advanceNow _ _ _)⟩
  | spuriousAck _ _ hs => exact absurd hw hs
  | command _ _ hs _ w q _ t ht => exact absurd (hw.symm.trans (ht.schState_eq.trans hs)) (by decide)
  | reset | success | failure | init => cases hw

/-- Only reset enters IDLE, and INIT leaves it. -/
theorem StepEffect.rst_or_idle (he : StepEffect s s') (hi : s'.schState = .idle) :
    s.rst = true ∨ s.schState = .idle := by
  cases he with
  | reset hr => exact .inl hr
  | spuriousAck | wait => exact .inr hi
  | command _ _ _ _ w q _ t ht => exact .inr (ht.schState_eq.symm.trans hi)
  | success | failure | init | wake => cases hi

/-- Reset gives the registers their reset values, and a step that stays in IDLE writes none of them. -/
theorem StepEffect.idleInv (he : StepEffect s s') (h : s.IdleInv) : s'.IdleInv := by
  intro hi
  cases he with
  | reset => exact ⟨rfl, rfl, rfl, rfl, rfl, rfl⟩
  | spuriousAck | wait => exact h hi
  | command _ _ hs _ w q _ t ht => exact absurd (hi.symm.trans (ht.schState_eq.trans hs)) (by decide)
  | success | failure | init | wake => cases hi

/-! ### The plan and the state of the scheduler through one step (43_report_scheduler.md R185, R189) -/

/-- BUTTON plans at NOW plus its offset, and another word leaves WAKE_AT alone. -/
theorem CommandEffect.wakeAt_cases (h : CommandEffect b w t) :
    (decode w = .ok .button ∧ t.wakeAt = b.now + b.build.buttonOffsetMs) ∨
    (decode w ≠ .ok .button ∧ t.wakeAt = b.wakeAt) := by
  cases h with
  | button hd => exact .inl ⟨hd, rfl⟩
  | error e hd | tempPush p hd | tempNonfinite p hd | tempClear hd | voltPush p hd | voltNonfinite p hd
  | voltClear hd | motionDebounced hd | motionCounted hd | motionUngated hd => exact .inr ⟨by simp [hd], rfl⟩

/-- Where the command port has the turn, WAKE does not. -/
theorem not_wake_turn (hw : s.wakeTurn = false ∨ s.now < s.wakeAt) : ¬(s.wakeAt ≤ s.now ∧ s.wakeTurn = true) := by
  rintro ⟨hle, ht⟩
  simp [ht, hle.not_gt] at hw

/-- A step keeps a reached wake time reached, whether it takes the WAKE or leaves it, if BUTTON plans at NOW. -/
theorem StepEffect.wakeDue_or_taken (he : StepEffect s s') (ho : s.build.buttonOffsetMs = 0) (hr : s.rst = false)
    (hs : s.schState = .pending) (hw : s.wakeAt ≤ s.now) : s'.wakeDue = true ∨ s'.schState = .waitTx := by
  cases he with
  | wake => exact .inr rfl
  | spuriousAck => exact .inl ((wakeDue_iff _).2 ⟨hs, hw⟩)
  | wait => exact .inl ((wakeDue_iff _).2 ⟨hs, hw.trans (le_advanceNow _ _ _)⟩)
  | command _ _ _ _ w q _ t ht =>
    have hreached : t.wakeAt ≤ t.now := ht.wakeAt_le_now ho hw
    exact .inl ((wakeDue_iff _).2 ⟨ht.schState_eq.trans hs, hreached.trans (le_advanceNow _ _ _)⟩)
  | reset hrst => simp [hr] at hrst
  | success _ _ h | failure _ _ h | init _ _ h => simp [hs] at h

end Scheduler

/-- Settles O57: each effect of a step keeps the frame of WAIT_TX. -/
theorem everyStepKeepsTheSnapshot : Obligations.EveryStepKeepsTheSnapshot := by
  unfold Obligations.EveryStepKeepsTheSnapshot
  exact fun s s' hi h => (step_effect h).snapshotInv hi

/-- Settles O58: each effect of a step keeps the reset values of IDLE. -/
theorem everyStepKeepsIdleAtReset : Obligations.EveryStepKeepsIdleAtReset := by
  unfold Obligations.EveryStepKeepsIdleAtReset
  exact fun s s' hi h => (step_effect h).idleInv hi

/-- Settles O42: each effect of a step is one row of the table; a command but BUTTON, a spurious ack and a
waiting edge are the rows that leave the scheduler alone. -/
theorem schedulerTransitionsAreExactlyThese : Obligations.SchedulerTransitionsAreExactlyThese := by
  unfold Obligations.SchedulerTransitionsAreExactlyThese
  intro s s' h
  cases step_effect h with
  | reset hr => exact .inl ⟨hr, rfl, rfl⟩
  | init hr ha hs => exact .inr <| .inl ⟨hr, ha, hs, rfl, rfl⟩
  | wake hr ha hs hw ht => exact .inr <| .inr <| .inr <| .inl ⟨hr, ha, hs, hw, ht, rfl, rfl⟩
  | success hr ha hs ho | failure hr ha hs ho =>
    exact .inr <| .inr <| .inr <| .inr <| .inl ⟨hr, ha, hs, rfl, by simp [ho]⟩
  | command hr ha hs hw w q hq t ht =>
    have hacc : s.Accepts w := ⟨by simp [hq], hs, hr, ha, hw⟩
    obtain ⟨hd, hplan⟩ | ⟨hd, hkeep⟩ := ht.wakeAt_cases
    · exact .inr <| .inr <| .inl ⟨⟨w, hacc, hd⟩, ht.schState_eq.trans hs, hplan⟩
    · exact .inr <| .inr <| .inr <| .inr <| .inr ⟨hr, by simp [hs], by simp [hs],
        fun v hv => hacc.unique hv ▸ hd, fun ⟨_, _, hturn⟩ => not_wake_turn hw hturn, ht.schState_eq, hkeep⟩
  | spuriousAck hr ha hs =>
    exact .inr <| .inr <| .inr <| .inr <| .inr ⟨hr, fun _ => ha, fun hwait => absurd hwait hs,
      fun w ⟨_, _, _, hna, _⟩ => by simp [ha] at hna, by simp [ha], rfl, rfl⟩
  | wait hr ha hs =>
    obtain hs | ⟨hs, hw, hq⟩ := hs
    · exact .inr <| .inr <| .inr <| .inr <| .inr ⟨hr, by simp [hs], fun _ => ha,
        fun w ⟨_, hp, _⟩ => by simp [hs] at hp, by simp [hs], rfl, rfl⟩
    · exact .inr <| .inr <| .inr <| .inr <| .inr ⟨hr, by simp [hs], fun _ => ha,
        fun w ⟨hhead, _⟩ => by simp [hq] at hhead, fun ⟨_, _, hturn⟩ => not_wake_turn hw hturn, rfl, rfl⟩

/-- Settles O43: NOW does not go back, BUTTON plans at NOW, and no other step in PENDING writes WAKE_AT. -/
theorem enabledWakeStaysEnabled : Obligations.EnabledWakeStaysEnabled := by
  unfold Obligations.EnabledWakeStaysEnabled
  intro s s' ho hr hdue h
  obtain ⟨hs, hw⟩ := (wakeDue_iff s).1 hdue
  exact (step_effect h).wakeDue_or_taken ho hr hs hw

/-- Settles O34: a command is held in IDLE, only reset enters IDLE, and the enabled INIT is one time sum. -/
theorem initPlansTheFirstReport : Obligations.InitPlansTheFirstReport := by
  unfold Obligations.InitPlansTheFirstReport
  refine ⟨fun s i hs hi => ⟨by simp [State.cmdReady, hs], exec_command_held hi (by simp [hs])⟩,
    fun s s' h => (step_effect h).rst_or_idle, fun s => exec_init_held, fun s hs hr => ?_⟩
  rw [exec_init_enabled hs hr]
  exact ⟨fun hf => withTime_of_fits hf _, fun hf => withTime_of_overflow hf _⟩

/-- Settles O35: the accepted BUTTON is one time sum, and at the offset 0 the time planned is NOW. -/
theorem buttonPlansAnImmediateWake : Obligations.ButtonPlansAnImmediateWake := by
  unfold Obligations.ButtonPlansAnImmediateWake
  refine ⟨by decide, fun s => exec_command_held rfl, fun s hs hr => ?_⟩
  rw [exec_button_accepted hs hr]
  refine ⟨fun hf => withTime_of_fits hf _, fun ho hn => ?_,
    fun p hp => acceptWord_of_payload (opc := 0x06#8) (by decide) hp s⟩
  rw [ho]
  exact ⟨_, withTime_of_fits hn _, (wakeDue_iff _).2 ⟨hs, le_rfl⟩⟩

/-- Settles O40: each of the five operations that plan a time is one time sum. -/
theorem timesBeyondTickWidthAreRefused : Obligations.TimesBeyondTickWidthAreRefused := by
  unfold Obligations.TimesBeyondTickWidthAreRefused
  refine fun s hr => ⟨fun hs he hn hf => ?_, fun hs hf => ?_, fun hs hf => ?_, fun hs hf => ?_, fun hs hf => ?_⟩
  · exact (exec_motion_gated hs hr he hn).trans (withTime_of_overflow hf _)
  · exact (exec_button_accepted hs hr).trans (withTime_of_overflow hf _)
  · exact (exec_init_enabled hs hr).trans (withTime_of_overflow hf _)
  · exact (exec_txComplete_success hs hr).trans (withTime_of_overflow hf _)
  · exact (exec_txComplete_failure hs hr).trans (withTime_of_overflow hf _)

end Sys2Proof.Machine

namespace Sys2Proof.Machine

/-! ## The transmission controller (44_transmission_controller.md) -/

section ReportCycle

variable {s t : State}

/-! ### WAKE, and the cycle whose send fails, as equations (R210, R213) -/

/-- The state in which the frame of `s` waits for the radio's answer. -/
def State.withSendRequested (s : State) : State :=
  { s with
    txFrame := reportFrame s, schState := .waitTx, events := s.events ++ [.txRequest (reportFrame s) s.now] }

theorem exec_wake_due (hs : s.schState = .pending) (hr : s.rst = false) (hw : s.wakeAt ≤ s.now) :
    exec .wake s = .next s.withSendRequested :=
  if_pos (by simp [(wakeDue_iff s).2 ⟨hs, hw⟩, hr])

/-- What a failed cycle makes of a state in PENDING: the frame and its request stay, and the wake is replanned from its
nominal time. -/
def State.afterFailedCycle (s : State) : State :=
  { s with
    now := max s.now s.wakeAt, txFrame := reportFrame s, schState := .pending,
    wakeAt := s.wakeAt + s.build.retryMs,
    events := s.events ++ [.txRequest (reportFrame s) (max s.now s.wakeAt)] }

theorem failedCycle_of_fits (hs : s.schState = .pending) (hr : s.rst = false)
    (hf : s.wakeAt + s.build.retryMs < 2 ^ s.build.tickW) : failedCycle s = .next s.afterFailedCycle := by
  have hwake := exec_wake_due (s := { s with now := max s.now s.wakeAt }) hs hr (Nat.le_max_right ..)
  have hfail := exec_txComplete_failure (s := State.withSendRequested { s with now := max s.now s.wakeAt }) rfl hr
  rw [failedCycle, hwake]
  exact hfail.trans (withTime_of_fits hf _)

/-! ### Failed cycles in a row (R215) -/

/-- The induction over `n` runs in a row: if each run takes a state with `P k` to a next state with `P (k + 1)`, all `n`
runs end in a next state, with `P n`. -/
theorem repeatRun_induction {f : State → Result} {P : Nat → State → Prop} (n : Nat) (h0 : P 0 s)
    (hstep : ∀ k < n, ∀ t, P k t → ∃ t', f t = .next t' ∧ P (k + 1) t') :
    ∃ t, repeatRun f n s = .next t ∧ P n t := by
  induction n with
  | zero => exact ⟨s, rfl, h0⟩
  | succ n ih =>
    obtain ⟨t, ht, hP⟩ := ih fun k hk => hstep k (hk.trans n.lt_succ_self)
    obtain ⟨t', ht', hP'⟩ := hstep n n.lt_succ_self t hP
    exact ⟨t', by rw [repeatRun, ht]; exact ht', hP'⟩

/-- `t` is where `k` failed cycles in a row lead from `s`: WAKE_AT has moved by RETRY_MS a cycle, and the
count, its window and the streams are as they were. -/
structure State.FailedCycles (s : State) (k : Nat) (t : State) : Prop where
  build_eq : t.build = s.build
  pending : t.schState = .pending
  rst_low : t.rst = false
  wakeAt_eq : t.wakeAt = s.wakeAt + k * s.build.retryMs
  mcCount_eq : t.mcCount = s.mcCount
  mcNext_eq : t.mcNext = s.mcNext
  ts_eq : t.ts = s.ts
  vs_eq : t.vs = s.vs

theorem State.FailedCycles.zero (hs : s.schState = .pending) (hr : s.rst = false) : s.FailedCycles 0 s :=
  ⟨rfl, hs, hr, by simp, rfl, rfl, rfl, rfl⟩

theorem State.FailedCycles.succ {k : Nat} (h : s.FailedCycles k t)
    (hf : s.wakeAt + (k + 1) * s.build.retryMs < 2 ^ s.build.tickW) :
    ∃ t', failedCycle t = .next t' ∧ s.FailedCycles (k + 1) t' := by
  obtain ⟨hb, hs, hr, hwake, hcount, hnext, hts, hvs⟩ := h
  have hsum : t.wakeAt + t.build.retryMs = s.wakeAt + (k + 1) * s.build.retryMs := by
    rw [hwake, hb, Nat.succ_mul, Nat.add_assoc]
  exact ⟨_, failedCycle_of_fits hs hr (by rw [hsum, hb]; exact hf), hb, rfl, hr, hsum, hcount, hnext, hts, hvs⟩

theorem repeatRun_failedCycle (hs : s.schState = .pending) (hr : s.rst = false) (n : Nat)
    (hf : s.wakeAt + n * s.build.retryMs < 2 ^ s.build.tickW) :
    ∃ t, repeatRun failedCycle n s = .next t ∧ s.FailedCycles n t :=
  repeatRun_induction n (.zero hs hr) fun _ hk _ hrun =>
    hrun.succ ((Nat.add_le_add_left (Nat.mul_le_mul_right _ hk) _).trans_lt hf)

end ReportCycle

/-- Settles O39: each failed cycle replans from the nominal time of its own wake, however late NOW is. -/
theorem retriesHaveNoLimitAndNoBackoff : Obligations.RetriesHaveNoLimitAndNoBackoff := by
  unfold Obligations.RetriesHaveNoLimitAndNoBackoff
  intro k s hs hr hf
  obtain ⟨t, ht, hrun⟩ := repeatRun_failedCycle hs hr k hf
  exact ⟨t, ht, hrun.pending, hrun.wakeAt_eq, hrun.mcCount_eq, hrun.mcNext_eq, hrun.ts_eq, hrun.vs_eq⟩

/-- Settles O36: a WAKE that is not due is held, and a due one sends the frame the registers give. -/
theorem wakeEncodesAndRequestsTheSend : Obligations.WakeEncodesAndRequestsTheSend := by
  unfold Obligations.WakeEncodesAndRequestsTheSend
  exact ⟨fun _ => exec_wake_held, fun _ => exec_wake_due⟩

/-- Settles O37: the success branch is one time sum over the cleared count and the LED pulse. -/
theorem successfulSendClearsCountAndReplans : Obligations.SuccessfulSendClearsCountAndReplans := by
  unfold Obligations.SuccessfulSendClearsCountAndReplans
  exact fun s hs hr hf => (exec_txComplete_success hs hr).trans (withTime_of_fits hf _)

/-- Settles O38: the failure branch is one time sum, with no other write but SCH_STATE. -/
theorem failedSendKeepsDataAndReplans : Obligations.FailedSendKeepsDataAndReplans := by
  unfold Obligations.FailedSendKeepsDataAndReplans
  exact fun s hs hr hf => (exec_txComplete_failure hs hr).trans (withTime_of_fits hf _)

end Sys2Proof.Machine

namespace Sys2Proof.Machine

/-! ## Errors and reset (60_exceptions.md R242, R248, 70_reset_and_hazards.md R270) -/

section Exceptions

variable {b s t : State} {w : CmdWord}

/-! ### The spurious ack (R248 item 4) -/

/-- An ack that answers no request is an error (30_encoding.md R78). -/
theorem exec_txComplete_spurious (hr : s.rst = false) (hs : s.schState ≠ .waitTx) (ok : Bool) :
    exec (.txComplete ok) s = .next (s.raiseError .spuriousAck) :=
  (if_neg (by simp [hr])).trans (if_neg hs)

theorem settle_spurious (hr : s.rst = false) (ha : s.txAck = true) (hs : s.schState ≠ .waitTx) (t : State) :
    settle s t = t.dropAck :=
  if_pos (by simp [State.ackIsSpurious, hr, ha, hs])

/-- The SPURIOUS_ACK step: the error is raised and the ack is dropped, at the same edge. -/
theorem step_spuriousAck (hr : s.rst = false) (ha : s.txAck = true) (hs : s.schState ≠ .waitTx) :
    step s = .next (s.beginStep.raiseError .spuriousAck).dropAck := by
  have hp : perform (pick s) s.beginStep = .next (s.beginStep.raiseError .spuriousAck) := by
    rw [pick_ack hr ha]
    exact exec_txComplete_spurious (s := s.beginStep) hr hs _
  rw [step_of_perform hp, settle_spurious hr ha hs]

/-! ### What an error and a reset change -/

/-- A command that writes ERR does nothing but raise an error (R242). -/
theorem CommandEffect.err_eq_or_raiseError (h : CommandEffect b w t) :
    t.err = b.err ∨ ∃ c, t = b.raiseError c := by
  cases h with
  | error | tempNonfinite | voltNonfinite => exact .inr ⟨_, rfl⟩
  | tempPush | tempClear | voltPush | voltClear | motionDebounced | motionCounted | motionUngated | button =>
    exact .inl rfl

/-- STATUS after reset, on a build that R34 gives a layout for. -/
theorem status_resetRegisters (h : s.build.fitsStatus = true) : s.resetRegisters.status = 0x00000000#32 := by
  simp [State.status, h, SchState.code]

end Exceptions

/-- Settles O46: a spurious ack raises its error and nothing else, and so does a command that writes ERR. -/
theorem anErrorChangesOnlyErr : Obligations.AnErrorChangesOnlyErr := by
  unfold Obligations.AnErrorChangesOnlyErr
  intro s s' h hr hne
  cases step_effect h with
  | reset hrst => simp [hr] at hrst
  | spuriousAck => exact ⟨rfl, rfl, rfl, rfl, rfl, rfl, rfl, rfl⟩
  | command _ _ _ _ w q _ t ht =>
    obtain hkeep | ⟨c, rfl⟩ := ht.err_eq_or_raiseError
    · exact absurd hkeep hne
    · exact ⟨rfl, rfl, rfl, rfl, rfl, rfl, rfl, rfl⟩
  | success | failure | init | wake | wait => exact absurd rfl hne

/-- Settles O7: the ack is picked as TX_COMPLETE, which is an error here, and only the ack is consumed. -/
theorem spuriousAckPrecedesTheOtherStep : Obligations.SpuriousAckPrecedesTheOtherStep := by
  unfold Obligations.SpuriousAckPrecedesTheOtherStep
  exact fun s => step_spuriousAck

/-- Settles O44: a reset is picked before everything else, and the outputs are read off the reset registers. -/
theorem resetRestoresEveryRegister : Obligations.ResetRestoresEveryRegister := by
  unfold Obligations.ResetRestoresEveryRegister
  exact ⟨fun s hr => step_of_pick_operation (pick_reset hr) (ackIsSpurious_of_rst hr),
    fun s => ⟨s.resetRegisters, rfl, rfl, rfl, rfl, rfl, status_resetRegisters⟩⟩

end Sys2Proof.Machine
